-- ==== Sys2Proof/Word.lean ====
section
/-! DEFINITION. The two widths of the core (R5): bytes and 16-bit words. Bit fields, extensions and byte order are in
`Sys2Proof/Machine/Bits.lean`. -/

namespace Sys2Proof

/-- A byte: 8 bits (R5, R9). -/
abbrev Byte := BitVec 8

/-- A word, which is an address: 16 bits (R5, R9). -/
abbrev Word := BitVec 16

end Sys2Proof
end

