-- ==== Sys2Proof/Machine/Bits.lean ====
section
/-! DEFINITION. The byte and word operations of the spec's notation (R9, R53): extension, byte order, and the two bytes of a word. -/

namespace Sys2Proof

/-- `zext_16` (R9). -/
def zext16 (b : Byte) : Word := b.setWidth 16

/-- `sext_16` (R9): a byte read as two's complement, modulo 2^16. -/
def sext16 (b : Byte) : Word := b.signExtend 16

/-- `hi:lo` (R9): the 16-bit value `hi * 256 + lo`. -/
def word (hi lo : Byte) : Word := hi ++ lo

/-- Bits 15:8 of a word. -/
def hiByte (w : Word) : Byte := w.extractLsb' 8 8

/-- Bits 7:0 of a word. -/
def loByte (w : Word) : Byte := w.extractLsb' 0 8

end Sys2Proof
end

