-- ==== Sys2Proof/Config.lean ====
section
/-! DEFINITION. The named parameters the spec leaves to the implementation (R6) and the values `State.reset` takes for them.

The spec makes them ARGUMENTS of the model. They are plain data carried in `State.params`, which no operation writes, so
that a statement about every state holds for every value of them. No statement rests on the values chosen below. -/

namespace Sys2Proof

/-- The parameters of R6, in the spec's order. -/
structure Params where
  /-- `BASE_ADDR` (D1): the load address of the image and the reset value of PC. -/
  baseAddr : Word
  /-- `STEP_CAP` (D2): the most steps one `execute` performs; the spec says at least 1 (`Params.wf`). -/
  stepCap : Nat
  /-- `JMP_IND_PAGE_WRAP` (D11): whether `JMP (abs)` with a pointer ending in 0xFF takes the high byte from the same page (R101). -/
  jmpIndPageWrap : Bool
  deriving DecidableEq, Repr

/-- `STEP_CAP` is "a natural number, at least 1" (R6). -/
def Params.wf (q : Params) : Bool := decide (1 ≤ q.stepCap)

/-- DESIGN CHOICE (logs 1, 2, 3; unsafe only for a claim about `State.reset` itself): the values `State.reset` takes. 0x8000 and
10,000,000 are the source's examples (D1, D2); `true` is the official 6502's behaviour (D11). -/
def Config.defaults : Params :=
  { baseAddr := 0x8000#16, stepCap := 10000000, jmpIndPageWrap := true }

end Sys2Proof
end

