-- ==== Sys2Proof/Syntax.lean ====
section
/-! DEFINITION. The instructions: one constructor of `Instr` for each of the 151 rows of the opcode table (R86, R87), with its operand
bytes as its arguments, and the descriptor (mnemonic and addressing mode) of each (R80, R81). -/

namespace Sys2Proof

/-- The 56 mnemonics (R87). -/
inductive Mnemonic where
  | lda | ldx | ldy | sta | stx | sty | tax | tay
  | txa | tya | tsx | txs | pha | php | pla | plp
  | adc | sbc | and | ora | eor | bit | cmp | cpx
  | cpy | inc | dec | inx | iny | dex | dey | asl
  | lsr | rol | ror | jmp | jsr | rts | rti | bcc
  | bcs | beq | bne | bmi | bpl | bvc | bvs | brk
  | nop | clc | sec | cli | sei | cld | sed | clv
  deriving DecidableEq, Repr

/-- The 13 addressing modes (R82). -/
inductive Mode where
  | imp | acc | imm | zp | zpx | zpy | rel | indx | indy | abs | absx | absy | ind
  deriving DecidableEq, Repr

/-- An addressing mode with its operand bytes: none, `op1`, or the little-endian word `W = op2:op1` (R83, R90). -/
inductive Operand where
  | imp
  | acc
  | imm (op1 : Byte)
  | zp (op1 : Byte)
  | zpx (op1 : Byte)
  | zpy (op1 : Byte)
  | rel (op1 : Byte)
  | indx (op1 : Byte)
  | indy (op1 : Byte)
  | abs (w : Word)
  | absx (w : Word)
  | absy (w : Word)
  | ind (w : Word)
  deriving DecidableEq, Repr

def Operand.mode : Operand → Mode
  | .imp => .imp
  | .acc => .acc
  | .imm _ => .imm
  | .zp _ => .zp
  | .zpx _ => .zpx
  | .zpy _ => .zpy
  | .rel _ => .rel
  | .indx _ => .indx
  | .indy _ => .indy
  | .abs _ => .abs
  | .absx _ => .absx
  | .absy _ => .absy
  | .ind _ => .ind

/-- The descriptor of an opcode: "immutable descriptor {mnemonic, addressing mode, ...}" (R80). -/
structure Descriptor where
  mnemonic : Mnemonic
  mode : Mode
  deriving DecidableEq, Repr

/-- The instructions, by mnemonic in the order of the spec's files; the comment gives the rule of each. -/
inductive Instr where
  -- LDA, R130
  | ldaImm (op1 : Byte)
  | ldaZp (op1 : Byte)
  | ldaZpx (op1 : Byte)
  | ldaAbs (w : Word)
  | ldaAbsx (w : Word)
  | ldaAbsy (w : Word)
  | ldaIndx (op1 : Byte)
  | ldaIndy (op1 : Byte)
  -- LDX, R131
  | ldxImm (op1 : Byte)
  | ldxZp (op1 : Byte)
  | ldxZpy (op1 : Byte)
  | ldxAbs (w : Word)
  | ldxAbsy (w : Word)
  -- LDY, R132
  | ldyImm (op1 : Byte)
  | ldyZp (op1 : Byte)
  | ldyZpx (op1 : Byte)
  | ldyAbs (w : Word)
  | ldyAbsx (w : Word)
  -- STA, R133
  | staZp (op1 : Byte)
  | staZpx (op1 : Byte)
  | staAbs (w : Word)
  | staAbsx (w : Word)
  | staAbsy (w : Word)
  | staIndx (op1 : Byte)
  | staIndy (op1 : Byte)
  -- STX, R134
  | stxZp (op1 : Byte)
  | stxZpy (op1 : Byte)
  | stxAbs (w : Word)
  -- STY, R135
  | styZp (op1 : Byte)
  | styZpx (op1 : Byte)
  | styAbs (w : Word)
  -- TAX, R150
  | tax
  -- TAY, R151
  | tay
  -- TXA, R152
  | txa
  -- TYA, R153
  | tya
  -- TSX, R154
  | tsx
  -- TXS, R155
  | txs
  -- PHA, R156
  | pha
  -- PHP, R157
  | php
  -- PLA, R158
  | pla
  -- PLP, R159
  | plp
  -- ADC, R171
  | adcImm (op1 : Byte)
  | adcZp (op1 : Byte)
  | adcZpx (op1 : Byte)
  | adcAbs (w : Word)
  | adcAbsx (w : Word)
  | adcAbsy (w : Word)
  | adcIndx (op1 : Byte)
  | adcIndy (op1 : Byte)
  -- SBC, R172
  | sbcImm (op1 : Byte)
  | sbcZp (op1 : Byte)
  | sbcZpx (op1 : Byte)
  | sbcAbs (w : Word)
  | sbcAbsx (w : Word)
  | sbcAbsy (w : Word)
  | sbcIndx (op1 : Byte)
  | sbcIndy (op1 : Byte)
  -- AND, R173
  | andImm (op1 : Byte)
  | andZp (op1 : Byte)
  | andZpx (op1 : Byte)
  | andAbs (w : Word)
  | andAbsx (w : Word)
  | andAbsy (w : Word)
  | andIndx (op1 : Byte)
  | andIndy (op1 : Byte)
  -- ORA, R174
  | oraImm (op1 : Byte)
  | oraZp (op1 : Byte)
  | oraZpx (op1 : Byte)
  | oraAbs (w : Word)
  | oraAbsx (w : Word)
  | oraAbsy (w : Word)
  | oraIndx (op1 : Byte)
  | oraIndy (op1 : Byte)
  -- EOR, R175
  | eorImm (op1 : Byte)
  | eorZp (op1 : Byte)
  | eorZpx (op1 : Byte)
  | eorAbs (w : Word)
  | eorAbsx (w : Word)
  | eorAbsy (w : Word)
  | eorIndx (op1 : Byte)
  | eorIndy (op1 : Byte)
  -- BIT, R176
  | bitZp (op1 : Byte)
  | bitAbs (w : Word)
  -- CMP, R177
  | cmpImm (op1 : Byte)
  | cmpZp (op1 : Byte)
  | cmpZpx (op1 : Byte)
  | cmpAbs (w : Word)
  | cmpAbsx (w : Word)
  | cmpAbsy (w : Word)
  | cmpIndx (op1 : Byte)
  | cmpIndy (op1 : Byte)
  -- CPX, R178
  | cpxImm (op1 : Byte)
  | cpxZp (op1 : Byte)
  | cpxAbs (w : Word)
  -- CPY, R179
  | cpyImm (op1 : Byte)
  | cpyZp (op1 : Byte)
  | cpyAbs (w : Word)
  -- INC, R190
  | incZp (op1 : Byte)
  | incZpx (op1 : Byte)
  | incAbs (w : Word)
  | incAbsx (w : Word)
  -- DEC, R191
  | decZp (op1 : Byte)
  | decZpx (op1 : Byte)
  | decAbs (w : Word)
  | decAbsx (w : Word)
  -- INX, R192
  | inx
  -- INY, R193
  | iny
  -- DEX, R194
  | dex
  -- DEY, R195
  | dey
  -- ASL, R196
  | aslAcc
  | aslZp (op1 : Byte)
  | aslZpx (op1 : Byte)
  | aslAbs (w : Word)
  | aslAbsx (w : Word)
  -- LSR, R197
  | lsrAcc
  | lsrZp (op1 : Byte)
  | lsrZpx (op1 : Byte)
  | lsrAbs (w : Word)
  | lsrAbsx (w : Word)
  -- ROL, R198
  | rolAcc
  | rolZp (op1 : Byte)
  | rolZpx (op1 : Byte)
  | rolAbs (w : Word)
  | rolAbsx (w : Word)
  -- ROR, R199
  | rorAcc
  | rorZp (op1 : Byte)
  | rorZpx (op1 : Byte)
  | rorAbs (w : Word)
  | rorAbsx (w : Word)
  -- JMP, R210
  | jmpAbs (w : Word)
  | jmpInd (w : Word)
  -- JSR, R211
  | jsr (w : Word)
  -- RTS, R212
  | rts
  -- RTI, R213
  | rti
  -- BCC, R215
  | bcc (op1 : Byte)
  -- BCS, R216
  | bcs (op1 : Byte)
  -- BEQ, R217
  | beq (op1 : Byte)
  -- BNE, R218
  | bne (op1 : Byte)
  -- BMI, R219
  | bmi (op1 : Byte)
  -- BPL, R220
  | bpl (op1 : Byte)
  -- BVC, R221
  | bvc (op1 : Byte)
  -- BVS, R222
  | bvs (op1 : Byte)
  -- BRK, R223
  | brk
  -- NOP, R224
  | nop
  -- CLC, R240
  | clc
  -- SEC, R241
  | sec
  -- CLI, R242
  | cli
  -- SEI, R243
  | sei
  -- CLD, R244
  | cld
  -- SED, R245
  | sed
  -- CLV, R246
  | clv
  deriving DecidableEq, Repr

/-- The mnemonic and the operand of an instruction. -/
def Instr.parts : Instr → Mnemonic × Operand
  | .ldaImm op1 => (.lda, .imm op1)
  | .ldaZp op1 => (.lda, .zp op1)
  | .ldaZpx op1 => (.lda, .zpx op1)
  | .ldaAbs w => (.lda, .abs w)
  | .ldaAbsx w => (.lda, .absx w)
  | .ldaAbsy w => (.lda, .absy w)
  | .ldaIndx op1 => (.lda, .indx op1)
  | .ldaIndy op1 => (.lda, .indy op1)
  | .ldxImm op1 => (.ldx, .imm op1)
  | .ldxZp op1 => (.ldx, .zp op1)
  | .ldxZpy op1 => (.ldx, .zpy op1)
  | .ldxAbs w => (.ldx, .abs w)
  | .ldxAbsy w => (.ldx, .absy w)
  | .ldyImm op1 => (.ldy, .imm op1)
  | .ldyZp op1 => (.ldy, .zp op1)
  | .ldyZpx op1 => (.ldy, .zpx op1)
  | .ldyAbs w => (.ldy, .abs w)
  | .ldyAbsx w => (.ldy, .absx w)
  | .staZp op1 => (.sta, .zp op1)
  | .staZpx op1 => (.sta, .zpx op1)
  | .staAbs w => (.sta, .abs w)
  | .staAbsx w => (.sta, .absx w)
  | .staAbsy w => (.sta, .absy w)
  | .staIndx op1 => (.sta, .indx op1)
  | .staIndy op1 => (.sta, .indy op1)
  | .stxZp op1 => (.stx, .zp op1)
  | .stxZpy op1 => (.stx, .zpy op1)
  | .stxAbs w => (.stx, .abs w)
  | .styZp op1 => (.sty, .zp op1)
  | .styZpx op1 => (.sty, .zpx op1)
  | .styAbs w => (.sty, .abs w)
  | .tax => (.tax, .imp)
  | .tay => (.tay, .imp)
  | .txa => (.txa, .imp)
  | .tya => (.tya, .imp)
  | .tsx => (.tsx, .imp)
  | .txs => (.txs, .imp)
  | .pha => (.pha, .imp)
  | .php => (.php, .imp)
  | .pla => (.pla, .imp)
  | .plp => (.plp, .imp)
  | .adcImm op1 => (.adc, .imm op1)
  | .adcZp op1 => (.adc, .zp op1)
  | .adcZpx op1 => (.adc, .zpx op1)
  | .adcAbs w => (.adc, .abs w)
  | .adcAbsx w => (.adc, .absx w)
  | .adcAbsy w => (.adc, .absy w)
  | .adcIndx op1 => (.adc, .indx op1)
  | .adcIndy op1 => (.adc, .indy op1)
  | .sbcImm op1 => (.sbc, .imm op1)
  | .sbcZp op1 => (.sbc, .zp op1)
  | .sbcZpx op1 => (.sbc, .zpx op1)
  | .sbcAbs w => (.sbc, .abs w)
  | .sbcAbsx w => (.sbc, .absx w)
  | .sbcAbsy w => (.sbc, .absy w)
  | .sbcIndx op1 => (.sbc, .indx op1)
  | .sbcIndy op1 => (.sbc, .indy op1)
  | .andImm op1 => (.and, .imm op1)
  | .andZp op1 => (.and, .zp op1)
  | .andZpx op1 => (.and, .zpx op1)
  | .andAbs w => (.and, .abs w)
  | .andAbsx w => (.and, .absx w)
  | .andAbsy w => (.and, .absy w)
  | .andIndx op1 => (.and, .indx op1)
  | .andIndy op1 => (.and, .indy op1)
  | .oraImm op1 => (.ora, .imm op1)
  | .oraZp op1 => (.ora, .zp op1)
  | .oraZpx op1 => (.ora, .zpx op1)
  | .oraAbs w => (.ora, .abs w)
  | .oraAbsx w => (.ora, .absx w)
  | .oraAbsy w => (.ora, .absy w)
  | .oraIndx op1 => (.ora, .indx op1)
  | .oraIndy op1 => (.ora, .indy op1)
  | .eorImm op1 => (.eor, .imm op1)
  | .eorZp op1 => (.eor, .zp op1)
  | .eorZpx op1 => (.eor, .zpx op1)
  | .eorAbs w => (.eor, .abs w)
  | .eorAbsx w => (.eor, .absx w)
  | .eorAbsy w => (.eor, .absy w)
  | .eorIndx op1 => (.eor, .indx op1)
  | .eorIndy op1 => (.eor, .indy op1)
  | .bitZp op1 => (.bit, .zp op1)
  | .bitAbs w => (.bit, .abs w)
  | .cmpImm op1 => (.cmp, .imm op1)
  | .cmpZp op1 => (.cmp, .zp op1)
  | .cmpZpx op1 => (.cmp, .zpx op1)
  | .cmpAbs w => (.cmp, .abs w)
  | .cmpAbsx w => (.cmp, .absx w)
  | .cmpAbsy w => (.cmp, .absy w)
  | .cmpIndx op1 => (.cmp, .indx op1)
  | .cmpIndy op1 => (.cmp, .indy op1)
  | .cpxImm op1 => (.cpx, .imm op1)
  | .cpxZp op1 => (.cpx, .zp op1)
  | .cpxAbs w => (.cpx, .abs w)
  | .cpyImm op1 => (.cpy, .imm op1)
  | .cpyZp op1 => (.cpy, .zp op1)
  | .cpyAbs w => (.cpy, .abs w)
  | .incZp op1 => (.inc, .zp op1)
  | .incZpx op1 => (.inc, .zpx op1)
  | .incAbs w => (.inc, .abs w)
  | .incAbsx w => (.inc, .absx w)
  | .decZp op1 => (.dec, .zp op1)
  | .decZpx op1 => (.dec, .zpx op1)
  | .decAbs w => (.dec, .abs w)
  | .decAbsx w => (.dec, .absx w)
  | .inx => (.inx, .imp)
  | .iny => (.iny, .imp)
  | .dex => (.dex, .imp)
  | .dey => (.dey, .imp)
  | .aslAcc => (.asl, .acc)
  | .aslZp op1 => (.asl, .zp op1)
  | .aslZpx op1 => (.asl, .zpx op1)
  | .aslAbs w => (.asl, .abs w)
  | .aslAbsx w => (.asl, .absx w)
  | .lsrAcc => (.lsr, .acc)
  | .lsrZp op1 => (.lsr, .zp op1)
  | .lsrZpx op1 => (.lsr, .zpx op1)
  | .lsrAbs w => (.lsr, .abs w)
  | .lsrAbsx w => (.lsr, .absx w)
  | .rolAcc => (.rol, .acc)
  | .rolZp op1 => (.rol, .zp op1)
  | .rolZpx op1 => (.rol, .zpx op1)
  | .rolAbs w => (.rol, .abs w)
  | .rolAbsx w => (.rol, .absx w)
  | .rorAcc => (.ror, .acc)
  | .rorZp op1 => (.ror, .zp op1)
  | .rorZpx op1 => (.ror, .zpx op1)
  | .rorAbs w => (.ror, .abs w)
  | .rorAbsx w => (.ror, .absx w)
  | .jmpAbs w => (.jmp, .abs w)
  | .jmpInd w => (.jmp, .ind w)
  | .jsr w => (.jsr, .abs w)
  | .rts => (.rts, .imp)
  | .rti => (.rti, .imp)
  | .bcc op1 => (.bcc, .rel op1)
  | .bcs op1 => (.bcs, .rel op1)
  | .beq op1 => (.beq, .rel op1)
  | .bne op1 => (.bne, .rel op1)
  | .bmi op1 => (.bmi, .rel op1)
  | .bpl op1 => (.bpl, .rel op1)
  | .bvc op1 => (.bvc, .rel op1)
  | .bvs op1 => (.bvs, .rel op1)
  | .brk => (.brk, .imp)
  | .nop => (.nop, .imp)
  | .clc => (.clc, .imp)
  | .sec => (.sec, .imp)
  | .cli => (.cli, .imp)
  | .sei => (.sei, .imp)
  | .cld => (.cld, .imp)
  | .sed => (.sed, .imp)
  | .clv => (.clv, .imp)

def Instr.mnemonic (i : Instr) : Mnemonic := i.parts.1

def Instr.operand (i : Instr) : Operand := i.parts.2

def Instr.mode (i : Instr) : Mode := i.operand.mode

def Instr.descriptor (i : Instr) : Descriptor := { mnemonic := i.mnemonic, mode := i.mode }

end Sys2Proof
end

