-- ==== Sys2Proof/Machine/State.lean ====
section
/-! DEFINITION. The state of the machine as plain data, the reasons a step or a run can stop, and the state after reset.

The architectural state is the seven fields of R20; the parameters of R6 stand in it as constants; the observers are the facade's
(R264); `lastOutcome` and `events` are the model's own and only report what a step hands to the host (logs 4, 5). -/

namespace Sys2Proof.Machine

/-- The memory array of R36 as a list of the bytes that are not `Memory.default`, addresses strictly rising (`Memory.wf`, log 6). -/
abbrev Memory := List Host.Cell

/-- The single-bit flags of P (R26). -/
inductive Flag where
  | c | z | i | d | b | v | n
  deriving DecidableEq, Repr

/-- What a completed step returns (R250): Continuing, or Halted on BRK (R252). -/
inductive StepOutcome where
  | continuing
  | halted
  deriving DecidableEq, Repr

/-- "The full register snapshot" (R263): A, X, Y, SP, PC, P. It is also the data of `cpu_status` (R286, D9). -/
structure RegSnapshot where
  a : Byte
  x : Byte
  y : Byte
  sp : Byte
  pc : Word
  p : Byte
  deriving DecidableEq, Repr

/-- The "resolved operand" of a CPU debug event (R261; DESIGN CHOICE of its form, log 5). -/
inductive ResolvedOperand where
  | none
  | accumulator
  | immediate (m : Byte)
  | address (ea : Word)
  | target (t : Word)
  deriving DecidableEq, Repr

/-- The debug events as data (R261 to R263, D9). -/
inductive DebugEvent where
  /-- One `MemWrite`: address, old and new byte (R262). -/
  | memory (addr : Word) (old new : Byte)
  /-- One completed step: mnemonic, resolved operand, PC0, registers before and after (R261). -/
  | cpu (mnemonic : Mnemonic) (operand : ResolvedOperand) (pc0 : Word) (before after : RegSnapshot)
  /-- One completed step: the registers after it (R263). -/
  | registers (after : RegSnapshot)
  deriving DecidableEq, Repr

/-- "At most one observer per channel" (R264): the observer's name, a number the host chose, or none. -/
structure Observers where
  cpu : Option Nat
  memory : Option Nat
  registers : Option Nat
  deriving DecidableEq, Repr

/-- Everything the spec gives the machine. -/
structure State where
  /-- A, the accumulator (R21). -/
  a : Byte
  /-- X, an index register (R22). -/
  x : Byte
  /-- Y, an index register (R22). -/
  y : Byte
  /-- SP, the stack pointer (R23). -/
  sp : Byte
  /-- PC, the program counter (R25). -/
  pc : Word
  /-- P, the status register, laid out as R26 says; read whole through `State.pByte`. -/
  p : Byte
  /-- Mem (R36). -/
  mem : Memory
  /-- The parameters of R6, written by nothing. -/
  params : Params
  /-- The registered debug observers (R264). -/
  observers : Observers
  /-- MODEL'S OWN: the outcome the last completed step returned (R250, log 4); no step reads it. -/
  lastOutcome : StepOutcome
  /-- MODEL'S OWN: the events the last completed step delivered, oldest first (R261 to R263, log 5); no step reads it. -/
  events : List DebugEvent
  deriving DecidableEq, Repr

/-- The ExecutionErrors of R250. -/
inductive Fault where
  /-- Raised by `step` alone, when the byte at PC is one of the 105 undefined opcodes (R88, R251): the address and the byte. Safe: it
  is the spec's own error, and the step writes nothing (R255). -/
  | invalidOpcode (pc : Word) (opcode : Byte)
  /-- Raised by `execute` alone, never by a step, after `STEP_CAP` continuing steps (R253, R284). Safe: the spec's own error. -/
  | stepCapExceeded
  deriving DecidableEq, Repr

/-- What the model gives no meaning to. -/
inductive Refusal where
  /-- Raised by `exec` for an instruction without a meaning; no arm does. Safe. -/
  | notModelled (mnemonic : String)
  /-- Raised by `hostCall` for an emulator operation called from inside an observer, to which the spec gives no meaning (R265, U6).
  Safe: the model stops. -/
  | observerReentry
  deriving DecidableEq, Repr

/-- The type of a meaning's answer. -/
abbrev Result := Host.Outcome State Fault Refusal

/-- No observer is registered (DESIGN CHOICE for a new instance, log 5). -/
def Observers.empty : Observers := { cpu := none, memory := none, registers := none }

/-- The reset state of R38 for the parameters `q`: A = X = Y = 0x00, SP = 0xFF, PC = BASE_ADDR, P = 0x20, every byte of memory 0x00. -/
def State.resetWith (q : Params) : State :=
  { a := 0x00#8
    x := 0x00#8
    y := 0x00#8
    sp := 0xFF#8
    pc := q.baseAddr
    p := 0x20#8
    mem := []
    params := q
    observers := Observers.empty
    lastOutcome := .continuing
    events := [] }

/-- The state after reset (R38; the state of a new instance is the same, R39), for the parameter values of `Config.defaults`. -/
def State.reset : State := State.resetWith Config.defaults

end Sys2Proof.Machine
end

