-- ==== Sys2Proof/Machine/Flags.lean ====
section
/-! DEFINITION. The bits of P (R26, R34) and every flag and result computation of the ALU (R27, R170 to R179, R190 to R199), as functions
of bytes. -/

namespace Sys2Proof.Machine

/-- The bit position of a flag in P (R26). -/
def Flag.bit : Flag → Nat
  | .c => 0
  | .z => 1
  | .i => 2
  | .d => 3
  | .b => 4
  | .v => 6
  | .n => 7

/-- `P.F` (R10). -/
def getFlag (p : Byte) (f : Flag) : Bool := p.getLsbD f.bit

/-- `P.F <- on` (R10): one bit of P, the others unchanged. -/
def putFlag (p : Byte) (f : Flag) (on : Bool) : Byte :=
  let bit := 1#8 <<< f.bit
  if on then p ||| bit else p &&& ~~~bit

/-- `SetZN(v)` on P (R27). -/
def putZN (p v : Byte) : Byte := putFlag (putFlag p .z (v == 0#8)) .n (v.getLsbD 7)

/-- `PByte()` (R34): P read as a byte; bit 5 reads as 1 (R33). -/
def pByteOf (p : Byte) : Byte := p ||| 0x20#8

/-- `PLoad(v)` on P (R34): N, V, D, I, Z, C from v, bit 5 stays 1, B unchanged. -/
def pLoadOf (p v : Byte) : Byte := (v &&& 0xCF#8) ||| (p &&& 0x10#8) ||| 0x20#8

/-- `A + M + P.C`, "a 9-bit sum, 0 to 511" (R171). -/
def addSum (a m : Byte) (c : Bool) : Nat := a.toNat + m.toNat + c.toNat

/-- `r <- s mod 256` (R171). -/
def addByte (a m : Byte) (c : Bool) : Byte := BitVec.ofNat 8 (addSum a m c)

/-- `P.C <- (s > 0xFF)` (R171). -/
def addCarry (a m : Byte) (c : Bool) : Bool := decide (addSum a m c > 0xFF)

/-- `P.V <- ((A ^ r) & (M ^ r) & 0x80) != 0` (R171). -/
def addOverflow (a m : Byte) (c : Bool) : Bool :=
  ((a ^^^ addByte a m c) &&& (m ^^^ addByte a m c) &&& 0x80#8) != 0#8

/-- P after ADC (R171). -/
def addFlags (p a m : Byte) (c : Bool) : Byte :=
  putZN (putFlag (putFlag p .c (addCarry a m c)) .v (addOverflow a m c)) (addByte a m c)

/-- `m' <- M ^ 0xFF`: SBC adds it (R172). -/
def subOperand (m : Byte) : Byte := m ^^^ 0xFF#8

/-- P after a compare (R177 to R179): C unsigned greater-or-equal, Z equal, N bit 7 of the difference. -/
def cmpFlags (p reg m : Byte) : Byte :=
  putFlag (putFlag (putFlag p .c (decide (m.toNat ≤ reg.toNat))) .z (reg == m)) .n ((reg - m).getLsbD 7)

/-- P after BIT (R176): Z from A & M, N and V from bits 7 and 6 of M. -/
def bitFlags (p a m : Byte) : Byte :=
  putFlag (putFlag (putFlag p .z ((a &&& m) == 0#8)) .n (m.getLsbD 7)) .v (m.getLsbD 6)

/-- A shift's result and the bit it moves into C. -/
structure Shifted where
  result : Byte
  carry : Bool
  deriving DecidableEq, Repr

/-- ASL (R196). -/
def aslByte (v : Byte) : Shifted := { result := v <<< 1, carry := v.getLsbD 7 }

/-- LSR (R197). -/
def lsrByte (v : Byte) : Shifted := { result := v >>> 1, carry := v.getLsbD 0 }

/-- ROL (R198): the old C enters bit 0. -/
def rolByte (c : Bool) (v : Byte) : Shifted :=
  { result := (v <<< 1) ||| (if c then 0x01#8 else 0x00#8), carry := v.getLsbD 7 }

/-- ROR (R199): the old C enters bit 7. -/
def rorByte (c : Bool) (v : Byte) : Shifted :=
  { result := (v >>> 1) ||| (if c then 0x80#8 else 0x00#8), carry := v.getLsbD 0 }

/-- P after a shift or rotate (R196 to R199). -/
def shiftFlags (p : Byte) (r : Shifted) : Byte := putZN (putFlag p .c r.carry) r.result

end Sys2Proof.Machine
end

