-- ==== Sys2Proof/Machine/Memory.lean ====
section
/-! DEFINITION. Reading and writing one byte of the memory array (R36, R50, R51). The canonical form is `Memory.wf`; both operations are
total on every list, canonical or not, and a write keeps the form (`Sys2Proof/Laws/Memory.lean`). -/

namespace Sys2Proof.Machine

/-- What an address that is not listed reads as: memory is "fully zeroed on `reset`" (R36, R38). -/
def Memory.default : Byte := 0x00#8

/-- The byte at an address: the first entry of the address, else the default. -/
def Memory.read : Memory → Nat → Byte
  | [], _ => Memory.default
  | (b, u) :: m, a => if a = b then u else Memory.read m a

/-- The memory without any entry of the address. -/
def Memory.erase : Memory → Nat → Memory
  | [], _ => []
  | (b, u) :: m, a => if a = b then Memory.erase m a else (b, u) :: Memory.erase m a

/-- The memory with an entry put before the first entry of a higher address. -/
def Memory.insert : Memory → Nat → Byte → Memory
  | [], a, v => [(a, v)]
  | (b, u) :: m, a, v => if a < b then (a, v) :: (b, u) :: m else (b, u) :: Memory.insert m a v

/-- Writing a byte; the default byte leaves no entry. -/
def Memory.write (m : Memory) (a : Nat) (v : Byte) : Memory :=
  if v = Memory.default then m.erase a else (m.erase a).insert a v

/-- Addresses from `lo` on rise strictly and lie below 65,536, and no entry holds the default. -/
def Memory.wfFrom : Nat → Memory → Bool
  | _, [] => true
  | lo, (a, v) :: m => decide (lo ≤ a) && decide (a < 65536) && !decide (v = Memory.default) && Memory.wfFrom (a + 1) m

/-- The canonical form. -/
def Memory.wf (m : Memory) : Bool := Memory.wfFrom 0 m

end Sys2Proof.Machine
end

