-- ==== Sys2Proof/Machine/Ops.lean ====
section
/-! DEFINITION. The pseudocode primitives of R10 over the state: one accessor for each register, memory access (R50, R51), the stack
(R55 to R58), P as a byte (R34), and halting (R252).

Taking an exception: the core has no trap entry, and no outcome saves state, changes a mode or redirects PC (R258); there is no trap
return either (R259), RTI being a plain stack instruction (R213). BRK's only effect is the Halted outcome, which is `State.halt`; an
undefined opcode is the fault `invalidOpcode` of `step`. So there is no entry operation to define here. -/

namespace Sys2Proof.Machine

def State.setA (s : State) (v : Byte) : State := { s with a := v }

def State.setX (s : State) (v : Byte) : State := { s with x := v }

def State.setY (s : State) (v : Byte) : State := { s with y := v }

def State.setSp (s : State) (v : Byte) : State := { s with sp := v }

/-- `PC <- target` (R10). -/
def State.setPc (s : State) (v : Word) : State := { s with pc := v }

def State.setP (s : State) (v : Byte) : State := { s with p := v }

def State.flag (s : State) (f : Flag) : Bool := getFlag s.p f

def State.setFlag (s : State) (f : Flag) (on : Bool) : State := s.setP (putFlag s.p f on)

/-- `SetZN(v)` (R27). -/
def State.setZN (s : State) (v : Byte) : State := s.setP (putZN s.p v)

/-- `PByte()` (R34). -/
def State.pByte (s : State) : Byte := pByteOf s.p

/-- `PLoad(v)` (R34). -/
def State.pLoad (s : State) (v : Byte) : State := s.setP (pLoadOf s.p v)

/-- `MemRead(addr, 1)` (R50): always succeeds, no side effect. -/
def State.memRead (s : State) (addr : Word) : Byte := s.mem.read addr.toNat

/-- The memory event of a write, if a memory observer is registered (R51, R262). -/
def State.memEvent (s : State) (addr : Word) (v : Byte) : List DebugEvent :=
  if s.observers.memory.isSome then [.memory addr (s.memRead addr) v] else []

/-- `MemWrite(addr, 1, v)` (R51): always succeeds, and emits its event. -/
def State.memWrite (s : State) (addr : Word) (v : Byte) : State :=
  { s with mem := s.mem.write addr.toNat v, events := s.events ++ s.memEvent addr v }

/-- The stack address of a stack pointer: `0x0100 + SP` (R55). -/
def stackAddr (sp : Byte) : Word := word 0x01#8 sp

/-- `Push(v)` (R56). -/
def State.push (s : State) (v : Byte) : State :=
  (s.memWrite (stackAddr s.sp) v).setSp (s.sp - 1#8)

/-- `Pull()` (R57): the byte and the state after. -/
def State.pull (s : State) : Byte × State :=
  let t := s.setSp (s.sp + 1#8)
  (t.memRead (stackAddr t.sp), t)

/-- `halt` (R10, R252): the step's outcome is Halted; nothing is latched that a step reads (R37). -/
def State.halt (s : State) : State := { s with lastOutcome := .halted }

/-- The register snapshot of R263 and the data of `cpu_status` (R286). -/
def State.snapshot (s : State) : RegSnapshot :=
  { a := s.a, x := s.x, y := s.y, sp := s.sp, pc := s.pc, p := s.pByte }

end Sys2Proof.Machine
end

