-- ==== Sys2Proof/Machine/Operands.lean ====
section
/-! DEFINITION. The addressing-mode resolver (R91 to R106). PC has been advanced past the instruction when an operand is resolved (R91). -/

namespace Sys2Proof.Machine

/-- Zero page (R95). -/
def eaZp (op1 : Byte) : Word := zext16 op1

/-- Zero page,X (R96): the sum wraps inside the zero page. -/
def eaZpx (op1 : Byte) (s : State) : Word := zext16 (op1 + s.x)

/-- Zero page,Y (R97). -/
def eaZpy (op1 : Byte) (s : State) : Word := zext16 (op1 + s.y)

/-- Absolute (R98). -/
def eaAbs (w : Word) : Word := w

/-- Absolute,X (R99). -/
def eaAbsx (w : Word) (s : State) : Word := w + zext16 s.x

/-- Absolute,Y (R100). -/
def eaAbsy (w : Word) (s : State) : Word := w + zext16 s.y

/-- The pointer at a zero-page address; its second byte wraps inside the zero page (R102, R103). -/
def zpPointer (p : Byte) (s : State) : Word :=
  word (s.memRead (zext16 (p + 1#8))) (s.memRead (zext16 p))

/-- Indexed indirect, `($nn,X)` (R102). -/
def eaIndx (op1 : Byte) (s : State) : Word := zpPointer (op1 + s.x) s

/-- Indirect indexed, `($nn),Y` (R103). -/
def eaIndy (op1 : Byte) (s : State) : Word := zpPointer op1 s + zext16 s.y

/-- Where JMP (abs) reads the high byte of its target (R101), as the parameter says. -/
def indHiAddr (wrap : Bool) (ptr : Word) : Word :=
  if wrap then (ptr &&& 0xFF00#16) ||| ((ptr + 1#16) &&& 0x00FF#16) else ptr + 1#16

/-- Indirect (R101). -/
def eaInd (w : Word) (s : State) : Word :=
  word (s.memRead (indHiAddr s.params.jmpIndPageWrap w)) (s.memRead w)

/-- The target of a relative branch, `T = PC +16 sext_16(op1)` (R104). -/
def relTarget (op1 : Byte) (s : State) : Word := s.pc + sext16 op1

/-- The effective address of the modes that have one. -/
def effectiveAddress : Operand → State → Option Word
  | .imp, _ => none
  | .acc, _ => none
  | .imm _, _ => none
  | .zp op1, _ => some (eaZp op1)
  | .zpx op1, s => some (eaZpx op1 s)
  | .zpy op1, s => some (eaZpy op1 s)
  | .rel _, _ => none
  | .indx op1, s => some (eaIndx op1 s)
  | .indy op1, s => some (eaIndy op1 s)
  | .abs w, _ => some (eaAbs w)
  | .absx w, s => some (eaAbsx w s)
  | .absy w, s => some (eaAbsy w s)
  | .ind w, s => some (eaInd w s)

/-- The operand value `M` of an instruction that reads one (R105; for the accumulator form R93): op1 for IMM, A for ACC, the byte at EA
for a memory mode. -/
def operandValue : Operand → State → Option Byte
  | .imm op1, _ => some op1
  | .acc, s => some s.a
  | o, s => (effectiveAddress o s).map s.memRead

/-- The resolved operand of the CPU debug event (R261). -/
def resolveOperand : Operand → State → ResolvedOperand
  | .imp, _ => .none
  | .acc, _ => .accumulator
  | .imm op1, _ => .immediate op1
  | .rel op1, s => .target (relTarget op1 s)
  | o, s => match effectiveAddress o s with
    | some ea => .address ea
    | none => .none

end Sys2Proof.Machine
end

