-- ==== Sys2Proof/Machine/Arith.lean ====
section
/-! DEFINITION. ALU arithmetic, logic and compare (R170 to R179). Addition is binary in every state, whatever D holds (R170, D4). -/

namespace Sys2Proof.Machine

/-- `A <- A + m + C` with its flags (R171). -/
def addToA (m : Byte) (s : State) : State :=
  { s with a := addByte s.a m (s.flag .c), p := addFlags s.p s.a m (s.flag .c) }

/-- ADC (R171). -/
def opAdc (m : Byte) (s : State) : Result := .next (addToA m s)

def execAdcImm (op1 : Byte) (s : State) : Result := opAdc op1 s

def execAdcZp (op1 : Byte) (s : State) : Result := opAdc (s.memRead (eaZp op1)) s

def execAdcZpx (op1 : Byte) (s : State) : Result := opAdc (s.memRead (eaZpx op1 s)) s

def execAdcAbs (w : Word) (s : State) : Result := opAdc (s.memRead (eaAbs w)) s

def execAdcAbsx (w : Word) (s : State) : Result := opAdc (s.memRead (eaAbsx w s)) s

def execAdcAbsy (w : Word) (s : State) : Result := opAdc (s.memRead (eaAbsy w s)) s

def execAdcIndx (op1 : Byte) (s : State) : Result := opAdc (s.memRead (eaIndx op1 s)) s

def execAdcIndy (op1 : Byte) (s : State) : Result := opAdc (s.memRead (eaIndy op1 s)) s

/-- SBC: ADC of `M ^ 0xFF` (R172). -/
def opSbc (m : Byte) (s : State) : Result := .next (addToA (subOperand m) s)

def execSbcImm (op1 : Byte) (s : State) : Result := opSbc op1 s

def execSbcZp (op1 : Byte) (s : State) : Result := opSbc (s.memRead (eaZp op1)) s

def execSbcZpx (op1 : Byte) (s : State) : Result := opSbc (s.memRead (eaZpx op1 s)) s

def execSbcAbs (w : Word) (s : State) : Result := opSbc (s.memRead (eaAbs w)) s

def execSbcAbsx (w : Word) (s : State) : Result := opSbc (s.memRead (eaAbsx w s)) s

def execSbcAbsy (w : Word) (s : State) : Result := opSbc (s.memRead (eaAbsy w s)) s

def execSbcIndx (op1 : Byte) (s : State) : Result := opSbc (s.memRead (eaIndx op1 s)) s

def execSbcIndy (op1 : Byte) (s : State) : Result := opSbc (s.memRead (eaIndy op1 s)) s

/-- `A <- A & M; SetZN(A)` (R173). -/
def opAnd (m : Byte) (s : State) : Result := .next ((s.setA (s.a &&& m)).setZN (s.a &&& m))

def execAndImm (op1 : Byte) (s : State) : Result := opAnd op1 s

def execAndZp (op1 : Byte) (s : State) : Result := opAnd (s.memRead (eaZp op1)) s

def execAndZpx (op1 : Byte) (s : State) : Result := opAnd (s.memRead (eaZpx op1 s)) s

def execAndAbs (w : Word) (s : State) : Result := opAnd (s.memRead (eaAbs w)) s

def execAndAbsx (w : Word) (s : State) : Result := opAnd (s.memRead (eaAbsx w s)) s

def execAndAbsy (w : Word) (s : State) : Result := opAnd (s.memRead (eaAbsy w s)) s

def execAndIndx (op1 : Byte) (s : State) : Result := opAnd (s.memRead (eaIndx op1 s)) s

def execAndIndy (op1 : Byte) (s : State) : Result := opAnd (s.memRead (eaIndy op1 s)) s

/-- `A <- A | M; SetZN(A)` (R174). -/
def opOra (m : Byte) (s : State) : Result := .next ((s.setA (s.a ||| m)).setZN (s.a ||| m))

def execOraImm (op1 : Byte) (s : State) : Result := opOra op1 s

def execOraZp (op1 : Byte) (s : State) : Result := opOra (s.memRead (eaZp op1)) s

def execOraZpx (op1 : Byte) (s : State) : Result := opOra (s.memRead (eaZpx op1 s)) s

def execOraAbs (w : Word) (s : State) : Result := opOra (s.memRead (eaAbs w)) s

def execOraAbsx (w : Word) (s : State) : Result := opOra (s.memRead (eaAbsx w s)) s

def execOraAbsy (w : Word) (s : State) : Result := opOra (s.memRead (eaAbsy w s)) s

def execOraIndx (op1 : Byte) (s : State) : Result := opOra (s.memRead (eaIndx op1 s)) s

def execOraIndy (op1 : Byte) (s : State) : Result := opOra (s.memRead (eaIndy op1 s)) s

/-- `A <- A ^ M; SetZN(A)` (R175). -/
def opEor (m : Byte) (s : State) : Result := .next ((s.setA (s.a ^^^ m)).setZN (s.a ^^^ m))

def execEorImm (op1 : Byte) (s : State) : Result := opEor op1 s

def execEorZp (op1 : Byte) (s : State) : Result := opEor (s.memRead (eaZp op1)) s

def execEorZpx (op1 : Byte) (s : State) : Result := opEor (s.memRead (eaZpx op1 s)) s

def execEorAbs (w : Word) (s : State) : Result := opEor (s.memRead (eaAbs w)) s

def execEorAbsx (w : Word) (s : State) : Result := opEor (s.memRead (eaAbsx w s)) s

def execEorAbsy (w : Word) (s : State) : Result := opEor (s.memRead (eaAbsy w s)) s

def execEorIndx (op1 : Byte) (s : State) : Result := opEor (s.memRead (eaIndx op1 s)) s

def execEorIndy (op1 : Byte) (s : State) : Result := opEor (s.memRead (eaIndy op1 s)) s

/-- BIT: flags only (R176). -/
def opBit (m : Byte) (s : State) : Result := .next (s.setP (bitFlags s.p s.a m))

def execBitZp (op1 : Byte) (s : State) : Result := opBit (s.memRead (eaZp op1)) s

def execBitAbs (w : Word) (s : State) : Result := opBit (s.memRead (eaAbs w)) s

/-- CMP: flags only (R177). -/
def opCmp (m : Byte) (s : State) : Result := .next (s.setP (cmpFlags s.p s.a m))

def execCmpImm (op1 : Byte) (s : State) : Result := opCmp op1 s

def execCmpZp (op1 : Byte) (s : State) : Result := opCmp (s.memRead (eaZp op1)) s

def execCmpZpx (op1 : Byte) (s : State) : Result := opCmp (s.memRead (eaZpx op1 s)) s

def execCmpAbs (w : Word) (s : State) : Result := opCmp (s.memRead (eaAbs w)) s

def execCmpAbsx (w : Word) (s : State) : Result := opCmp (s.memRead (eaAbsx w s)) s

def execCmpAbsy (w : Word) (s : State) : Result := opCmp (s.memRead (eaAbsy w s)) s

def execCmpIndx (op1 : Byte) (s : State) : Result := opCmp (s.memRead (eaIndx op1 s)) s

def execCmpIndy (op1 : Byte) (s : State) : Result := opCmp (s.memRead (eaIndy op1 s)) s

/-- CPX: flags only (R178). -/
def opCpx (m : Byte) (s : State) : Result := .next (s.setP (cmpFlags s.p s.x m))

def execCpxImm (op1 : Byte) (s : State) : Result := opCpx op1 s

def execCpxZp (op1 : Byte) (s : State) : Result := opCpx (s.memRead (eaZp op1)) s

def execCpxAbs (w : Word) (s : State) : Result := opCpx (s.memRead (eaAbs w)) s

/-- CPY: flags only (R179). -/
def opCpy (m : Byte) (s : State) : Result := .next (s.setP (cmpFlags s.p s.y m))

def execCpyImm (op1 : Byte) (s : State) : Result := opCpy op1 s

def execCpyZp (op1 : Byte) (s : State) : Result := opCpy (s.memRead (eaZp op1)) s

def execCpyAbs (w : Word) (s : State) : Result := opCpy (s.memRead (eaAbs w)) s

end Sys2Proof.Machine
end

