-- ==== Sys2Proof/Machine/Control.lean ====
section
/-! DEFINITION. Control transfer, BRK and NOP (R210 to R225). PC already holds `PC0 +16 L` when a meaning begins (R254). -/

namespace Sys2Proof.Machine

/-- `PC <- EA` (R210). -/
def opJmp (ea : Word) (s : State) : Result := .next (s.setPc ea)

def execJmpAbs (w : Word) (s : State) : Result := opJmp (eaAbs w) s

def execJmpInd (w : Word) (s : State) : Result := opJmp (eaInd w s) s

/-- `t <- PC -16 1; Push(t[15:8]); Push(t[7:0]); PC <- EA` (R211). -/
def execJsr (w : Word) (s : State) : Result :=
  let t := s.pc - 1#16
  .next (((s.push (hiByte t)).push (loByte t)).setPc (eaAbs w))

/-- `lo <- Pull(); hi <- Pull()`: the word and the state after (R212, R213). -/
def State.pullWord (s : State) : Word × State :=
  let lo := s.pull
  let hi := lo.2.pull
  (word hi.1 lo.1, hi.2)

/-- `PC <- (hi:lo) +16 1` (R212). -/
def execRts (s : State) : Result := .next (s.pullWord.2.setPc (s.pullWord.1 + 1#16))

/-- `v <- Pull(); PLoad(v); lo <- Pull(); hi <- Pull(); PC <- hi:lo`, no +1 (R213). -/
def execRti (s : State) : Result :=
  let t := s.pull.2.pLoad s.pull.1
  .next (t.pullWord.2.setPc t.pullWord.1)

/-- `if cond then PC <- T` (R214). -/
def branchIf (cond : Bool) (op1 : Byte) (s : State) : Result :=
  .next (if cond then s.setPc (relTarget op1 s) else s)

/-- `cond = (P.C == 0)` (R215). -/
def execBcc (op1 : Byte) (s : State) : Result := branchIf (!s.flag .c) op1 s

/-- `cond = (P.C == 1)` (R216). -/
def execBcs (op1 : Byte) (s : State) : Result := branchIf (s.flag .c) op1 s

/-- `cond = (P.Z == 1)` (R217). -/
def execBeq (op1 : Byte) (s : State) : Result := branchIf (s.flag .z) op1 s

/-- `cond = (P.Z == 0)` (R218). -/
def execBne (op1 : Byte) (s : State) : Result := branchIf (!s.flag .z) op1 s

/-- `cond = (P.N == 1)` (R219). -/
def execBmi (op1 : Byte) (s : State) : Result := branchIf (s.flag .n) op1 s

/-- `cond = (P.N == 0)` (R220). -/
def execBpl (op1 : Byte) (s : State) : Result := branchIf (!s.flag .n) op1 s

/-- `cond = (P.V == 0)` (R221). -/
def execBvc (op1 : Byte) (s : State) : Result := branchIf (!s.flag .v) op1 s

/-- `cond = (P.V == 1)` (R222). -/
def execBvs (op1 : Byte) (s : State) : Result := branchIf (s.flag .v) op1 s

/-- `halt` (R223, R252): nothing else, PC having been advanced. -/
def execBrk (s : State) : Result := .next s.halt

/-- No effect beyond the PC advance (R224). -/
def execNop (s : State) : Result := .next s

end Sys2Proof.Machine
end

