-- ==== Sys2Proof/Machine/FlagOps.lean ====
section
/-! DEFINITION. The flag instructions (R240 to R246): each writes one flag. -/

namespace Sys2Proof.Machine

/-- `P.C <- 0` (R240). -/
def execClc (s : State) : Result := .next (s.setFlag .c false)

/-- `P.C <- 1` (R241). -/
def execSec (s : State) : Result := .next (s.setFlag .c true)

/-- `P.I <- 0` (R242). -/
def execCli (s : State) : Result := .next (s.setFlag .i false)

/-- `P.I <- 1` (R243). -/
def execSei (s : State) : Result := .next (s.setFlag .i true)

/-- `P.D <- 0` (R244). -/
def execCld (s : State) : Result := .next (s.setFlag .d false)

/-- `P.D <- 1` (R245). -/
def execSed (s : State) : Result := .next (s.setFlag .d true)

/-- `P.V <- 0` (R246). -/
def execClv (s : State) : Result := .next (s.setFlag .v false)

end Sys2Proof.Machine
end

