-- ==== Sys2Proof/Machine/IncDecShift.lean ====
section
/-! DEFINITION. Increment and decrement (R190 to R195), shifts and rotates (R196 to R199). A memory form reads EA once and writes it once (R106). -/

namespace Sys2Proof.Machine

/-- The result of INC and INX, INY (R190, R192, R193). -/
def incByte (v : Byte) : Byte := v + 1#8

/-- The result of DEC and DEX, DEY (R191, R194, R195). -/
def decByte (v : Byte) : Byte := v - 1#8

/-- `MemWrite(EA, 1, r); SetZN(r)` (R190, R191). -/
def storeZN (ea : Word) (r : Byte) (s : State) : State := (s.memWrite ea r).setZN r

/-- INC (R190). -/
def opIncMem (ea : Word) (s : State) : Result := .next (storeZN ea (incByte (s.memRead ea)) s)

def execIncZp (op1 : Byte) (s : State) : Result := opIncMem (eaZp op1) s

def execIncZpx (op1 : Byte) (s : State) : Result := opIncMem (eaZpx op1 s) s

def execIncAbs (w : Word) (s : State) : Result := opIncMem (eaAbs w) s

def execIncAbsx (w : Word) (s : State) : Result := opIncMem (eaAbsx w s) s

/-- DEC (R191). -/
def opDecMem (ea : Word) (s : State) : Result := .next (storeZN ea (decByte (s.memRead ea)) s)

def execDecZp (op1 : Byte) (s : State) : Result := opDecMem (eaZp op1) s

def execDecZpx (op1 : Byte) (s : State) : Result := opDecMem (eaZpx op1 s) s

def execDecAbs (w : Word) (s : State) : Result := opDecMem (eaAbs w) s

def execDecAbsx (w : Word) (s : State) : Result := opDecMem (eaAbsx w s) s

/-- `X <- X +8 1; SetZN(X)` (R192). -/
def execInx (s : State) : Result := .next ((s.setX (incByte s.x)).setZN (incByte s.x))

/-- `Y <- Y +8 1; SetZN(Y)` (R193). -/
def execIny (s : State) : Result := .next ((s.setY (incByte s.y)).setZN (incByte s.y))

/-- `X <- X -8 1; SetZN(X)` (R194). -/
def execDex (s : State) : Result := .next ((s.setX (decByte s.x)).setZN (decByte s.x))

/-- `Y <- Y -8 1; SetZN(Y)` (R195). -/
def execDey (s : State) : Result := .next ((s.setY (decByte s.y)).setZN (decByte s.y))

/-- The accumulator form: C, Z, N from the shift and its result into A (R196 to R199). -/
def shiftAcc (r : Shifted) (s : State) : Result := .next ((s.setP (shiftFlags s.p r)).setA r.result)

/-- The memory form: C, Z, N from the shift and its result to EA (R196 to R199). -/
def shiftMem (ea : Word) (r : Shifted) (s : State) : Result := .next ((s.setP (shiftFlags s.p r)).memWrite ea r.result)

/-- ASL of the byte at EA (R196). -/
def opAslMem (ea : Word) (s : State) : Result := shiftMem ea (aslByte (s.memRead ea)) s

def execAslAcc (s : State) : Result := shiftAcc (aslByte s.a) s

def execAslZp (op1 : Byte) (s : State) : Result := opAslMem (eaZp op1) s

def execAslZpx (op1 : Byte) (s : State) : Result := opAslMem (eaZpx op1 s) s

def execAslAbs (w : Word) (s : State) : Result := opAslMem (eaAbs w) s

def execAslAbsx (w : Word) (s : State) : Result := opAslMem (eaAbsx w s) s

/-- LSR of the byte at EA (R197). -/
def opLsrMem (ea : Word) (s : State) : Result := shiftMem ea (lsrByte (s.memRead ea)) s

def execLsrAcc (s : State) : Result := shiftAcc (lsrByte s.a) s

def execLsrZp (op1 : Byte) (s : State) : Result := opLsrMem (eaZp op1) s

def execLsrZpx (op1 : Byte) (s : State) : Result := opLsrMem (eaZpx op1 s) s

def execLsrAbs (w : Word) (s : State) : Result := opLsrMem (eaAbs w) s

def execLsrAbsx (w : Word) (s : State) : Result := opLsrMem (eaAbsx w s) s

/-- ROL of the byte at EA (R198). -/
def opRolMem (ea : Word) (s : State) : Result := shiftMem ea (rolByte (s.flag .c) (s.memRead ea)) s

def execRolAcc (s : State) : Result := shiftAcc (rolByte (s.flag .c) s.a) s

def execRolZp (op1 : Byte) (s : State) : Result := opRolMem (eaZp op1) s

def execRolZpx (op1 : Byte) (s : State) : Result := opRolMem (eaZpx op1 s) s

def execRolAbs (w : Word) (s : State) : Result := opRolMem (eaAbs w) s

def execRolAbsx (w : Word) (s : State) : Result := opRolMem (eaAbsx w s) s

/-- ROR of the byte at EA (R199). -/
def opRorMem (ea : Word) (s : State) : Result := shiftMem ea (rorByte (s.flag .c) (s.memRead ea)) s

def execRorAcc (s : State) : Result := shiftAcc (rorByte (s.flag .c) s.a) s

def execRorZp (op1 : Byte) (s : State) : Result := opRorMem (eaZp op1) s

def execRorZpx (op1 : Byte) (s : State) : Result := opRorMem (eaZpx op1 s) s

def execRorAbs (w : Word) (s : State) : Result := opRorMem (eaAbs w) s

def execRorAbsx (w : Word) (s : State) : Result := opRorMem (eaAbsx w s) s

end Sys2Proof.Machine
end

