-- ==== Sys2Proof/Machine/LoadStore.lean ====
section
/-! DEFINITION. Loads and stores (R130 to R135): one operation for each mnemonic over an operand value or an effective address, and one meaning
for each constructor. -/

namespace Sys2Proof.Machine

/-- `A <- M; SetZN(A)` (R130). -/
def opLda (m : Byte) (s : State) : Result := .next ((s.setA m).setZN m)

def execLdaImm (op1 : Byte) (s : State) : Result := opLda op1 s

def execLdaZp (op1 : Byte) (s : State) : Result := opLda (s.memRead (eaZp op1)) s

def execLdaZpx (op1 : Byte) (s : State) : Result := opLda (s.memRead (eaZpx op1 s)) s

def execLdaAbs (w : Word) (s : State) : Result := opLda (s.memRead (eaAbs w)) s

def execLdaAbsx (w : Word) (s : State) : Result := opLda (s.memRead (eaAbsx w s)) s

def execLdaAbsy (w : Word) (s : State) : Result := opLda (s.memRead (eaAbsy w s)) s

def execLdaIndx (op1 : Byte) (s : State) : Result := opLda (s.memRead (eaIndx op1 s)) s

def execLdaIndy (op1 : Byte) (s : State) : Result := opLda (s.memRead (eaIndy op1 s)) s

/-- `X <- M; SetZN(X)` (R131). -/
def opLdx (m : Byte) (s : State) : Result := .next ((s.setX m).setZN m)

def execLdxImm (op1 : Byte) (s : State) : Result := opLdx op1 s

def execLdxZp (op1 : Byte) (s : State) : Result := opLdx (s.memRead (eaZp op1)) s

def execLdxZpy (op1 : Byte) (s : State) : Result := opLdx (s.memRead (eaZpy op1 s)) s

def execLdxAbs (w : Word) (s : State) : Result := opLdx (s.memRead (eaAbs w)) s

def execLdxAbsy (w : Word) (s : State) : Result := opLdx (s.memRead (eaAbsy w s)) s

/-- `Y <- M; SetZN(Y)` (R132). -/
def opLdy (m : Byte) (s : State) : Result := .next ((s.setY m).setZN m)

def execLdyImm (op1 : Byte) (s : State) : Result := opLdy op1 s

def execLdyZp (op1 : Byte) (s : State) : Result := opLdy (s.memRead (eaZp op1)) s

def execLdyZpx (op1 : Byte) (s : State) : Result := opLdy (s.memRead (eaZpx op1 s)) s

def execLdyAbs (w : Word) (s : State) : Result := opLdy (s.memRead (eaAbs w)) s

def execLdyAbsx (w : Word) (s : State) : Result := opLdy (s.memRead (eaAbsx w s)) s

/-- `MemWrite(EA, 1, A)`; EA is not read (R133, R105). -/
def opSta (ea : Word) (s : State) : Result := .next (s.memWrite ea s.a)

def execStaZp (op1 : Byte) (s : State) : Result := opSta (eaZp op1) s

def execStaZpx (op1 : Byte) (s : State) : Result := opSta (eaZpx op1 s) s

def execStaAbs (w : Word) (s : State) : Result := opSta (eaAbs w) s

def execStaAbsx (w : Word) (s : State) : Result := opSta (eaAbsx w s) s

def execStaAbsy (w : Word) (s : State) : Result := opSta (eaAbsy w s) s

def execStaIndx (op1 : Byte) (s : State) : Result := opSta (eaIndx op1 s) s

def execStaIndy (op1 : Byte) (s : State) : Result := opSta (eaIndy op1 s) s

/-- `MemWrite(EA, 1, X)`; EA is not read (R134, R105). -/
def opStx (ea : Word) (s : State) : Result := .next (s.memWrite ea s.x)

def execStxZp (op1 : Byte) (s : State) : Result := opStx (eaZp op1) s

def execStxZpy (op1 : Byte) (s : State) : Result := opStx (eaZpy op1 s) s

def execStxAbs (w : Word) (s : State) : Result := opStx (eaAbs w) s

/-- `MemWrite(EA, 1, Y)`; EA is not read (R135, R105). -/
def opSty (ea : Word) (s : State) : Result := .next (s.memWrite ea s.y)

def execStyZp (op1 : Byte) (s : State) : Result := opSty (eaZp op1) s

def execStyZpx (op1 : Byte) (s : State) : Result := opSty (eaZpx op1 s) s

def execStyAbs (w : Word) (s : State) : Result := opSty (eaAbs w) s

end Sys2Proof.Machine
end

