-- ==== Sys2Proof/Machine/Transfer.lean ====
section
/-! DEFINITION. Register transfers (R150 to R155) and stack operations (R156 to R159). -/

namespace Sys2Proof.Machine

/-- `X <- A; SetZN(X)` (R150). -/
def execTax (s : State) : Result := .next ((s.setX s.a).setZN s.a)

/-- `Y <- A; SetZN(Y)` (R151). -/
def execTay (s : State) : Result := .next ((s.setY s.a).setZN s.a)

/-- `A <- X; SetZN(A)` (R152). -/
def execTxa (s : State) : Result := .next ((s.setA s.x).setZN s.x)

/-- `A <- Y; SetZN(A)` (R153). -/
def execTya (s : State) : Result := .next ((s.setA s.y).setZN s.y)

/-- `X <- SP; SetZN(X)` (R154). -/
def execTsx (s : State) : Result := .next ((s.setX s.sp).setZN s.sp)

/-- `SP <- X`; no flag (R155). -/
def execTxs (s : State) : Result := .next (s.setSp s.x)

/-- `Push(A)` (R156). -/
def execPha (s : State) : Result := .next (s.push s.a)

/-- `Push(PByte() | 0x30)` (R157): bits 4 and 5 are pushed as 1 whatever P.B holds (D8). -/
def execPhp (s : State) : Result := .next (s.push (s.pByte ||| 0x30#8))

/-- `A <- Pull(); SetZN(A)` (R158). -/
def execPla (s : State) : Result := .next ((s.pull.2.setA s.pull.1).setZN s.pull.1)

/-- `v <- Pull(); PLoad(v)` (R159). -/
def execPlp (s : State) : Result := .next (s.pull.2.pLoad s.pull.1)

end Sys2Proof.Machine
end

