-- ==== Sys2Proof/Machine/Dispatch.lean ====
section
/-! DEFINITION. The dispatch: the meaning of each constructor of `Instr`, on a state whose PC has been advanced past it (R254). -/

namespace Sys2Proof.Machine

def exec (i : Instr) (s : State) : Host.Outcome State Fault Refusal :=
  match i with
  -- LDA, R130
  | .ldaImm op1 => Sys2Proof.Machine.execLdaImm op1 s
  | .ldaZp op1 => Sys2Proof.Machine.execLdaZp op1 s
  | .ldaZpx op1 => Sys2Proof.Machine.execLdaZpx op1 s
  | .ldaAbs w => Sys2Proof.Machine.execLdaAbs w s
  | .ldaAbsx w => Sys2Proof.Machine.execLdaAbsx w s
  | .ldaAbsy w => Sys2Proof.Machine.execLdaAbsy w s
  | .ldaIndx op1 => Sys2Proof.Machine.execLdaIndx op1 s
  | .ldaIndy op1 => Sys2Proof.Machine.execLdaIndy op1 s
  -- LDX, R131
  | .ldxImm op1 => Sys2Proof.Machine.execLdxImm op1 s
  | .ldxZp op1 => Sys2Proof.Machine.execLdxZp op1 s
  | .ldxZpy op1 => Sys2Proof.Machine.execLdxZpy op1 s
  | .ldxAbs w => Sys2Proof.Machine.execLdxAbs w s
  | .ldxAbsy w => Sys2Proof.Machine.execLdxAbsy w s
  -- LDY, R132
  | .ldyImm op1 => Sys2Proof.Machine.execLdyImm op1 s
  | .ldyZp op1 => Sys2Proof.Machine.execLdyZp op1 s
  | .ldyZpx op1 => Sys2Proof.Machine.execLdyZpx op1 s
  | .ldyAbs w => Sys2Proof.Machine.execLdyAbs w s
  | .ldyAbsx w => Sys2Proof.Machine.execLdyAbsx w s
  -- STA, R133
  | .staZp op1 => Sys2Proof.Machine.execStaZp op1 s
  | .staZpx op1 => Sys2Proof.Machine.execStaZpx op1 s
  | .staAbs w => Sys2Proof.Machine.execStaAbs w s
  | .staAbsx w => Sys2Proof.Machine.execStaAbsx w s
  | .staAbsy w => Sys2Proof.Machine.execStaAbsy w s
  | .staIndx op1 => Sys2Proof.Machine.execStaIndx op1 s
  | .staIndy op1 => Sys2Proof.Machine.execStaIndy op1 s
  -- STX, R134
  | .stxZp op1 => Sys2Proof.Machine.execStxZp op1 s
  | .stxZpy op1 => Sys2Proof.Machine.execStxZpy op1 s
  | .stxAbs w => Sys2Proof.Machine.execStxAbs w s
  -- STY, R135
  | .styZp op1 => Sys2Proof.Machine.execStyZp op1 s
  | .styZpx op1 => Sys2Proof.Machine.execStyZpx op1 s
  | .styAbs w => Sys2Proof.Machine.execStyAbs w s
  -- TAX, R150
  | .tax => Sys2Proof.Machine.execTax s
  -- TAY, R151
  | .tay => Sys2Proof.Machine.execTay s
  -- TXA, R152
  | .txa => Sys2Proof.Machine.execTxa s
  -- TYA, R153
  | .tya => Sys2Proof.Machine.execTya s
  -- TSX, R154
  | .tsx => Sys2Proof.Machine.execTsx s
  -- TXS, R155
  | .txs => Sys2Proof.Machine.execTxs s
  -- PHA, R156
  | .pha => Sys2Proof.Machine.execPha s
  -- PHP, R157
  | .php => Sys2Proof.Machine.execPhp s
  -- PLA, R158
  | .pla => Sys2Proof.Machine.execPla s
  -- PLP, R159
  | .plp => Sys2Proof.Machine.execPlp s
  -- ADC, R171
  | .adcImm op1 => Sys2Proof.Machine.execAdcImm op1 s
  | .adcZp op1 => Sys2Proof.Machine.execAdcZp op1 s
  | .adcZpx op1 => Sys2Proof.Machine.execAdcZpx op1 s
  | .adcAbs w => Sys2Proof.Machine.execAdcAbs w s
  | .adcAbsx w => Sys2Proof.Machine.execAdcAbsx w s
  | .adcAbsy w => Sys2Proof.Machine.execAdcAbsy w s
  | .adcIndx op1 => Sys2Proof.Machine.execAdcIndx op1 s
  | .adcIndy op1 => Sys2Proof.Machine.execAdcIndy op1 s
  -- SBC, R172
  | .sbcImm op1 => Sys2Proof.Machine.execSbcImm op1 s
  | .sbcZp op1 => Sys2Proof.Machine.execSbcZp op1 s
  | .sbcZpx op1 => Sys2Proof.Machine.execSbcZpx op1 s
  | .sbcAbs w => Sys2Proof.Machine.execSbcAbs w s
  | .sbcAbsx w => Sys2Proof.Machine.execSbcAbsx w s
  | .sbcAbsy w => Sys2Proof.Machine.execSbcAbsy w s
  | .sbcIndx op1 => Sys2Proof.Machine.execSbcIndx op1 s
  | .sbcIndy op1 => Sys2Proof.Machine.execSbcIndy op1 s
  -- AND, R173
  | .andImm op1 => Sys2Proof.Machine.execAndImm op1 s
  | .andZp op1 => Sys2Proof.Machine.execAndZp op1 s
  | .andZpx op1 => Sys2Proof.Machine.execAndZpx op1 s
  | .andAbs w => Sys2Proof.Machine.execAndAbs w s
  | .andAbsx w => Sys2Proof.Machine.execAndAbsx w s
  | .andAbsy w => Sys2Proof.Machine.execAndAbsy w s
  | .andIndx op1 => Sys2Proof.Machine.execAndIndx op1 s
  | .andIndy op1 => Sys2Proof.Machine.execAndIndy op1 s
  -- ORA, R174
  | .oraImm op1 => Sys2Proof.Machine.execOraImm op1 s
  | .oraZp op1 => Sys2Proof.Machine.execOraZp op1 s
  | .oraZpx op1 => Sys2Proof.Machine.execOraZpx op1 s
  | .oraAbs w => Sys2Proof.Machine.execOraAbs w s
  | .oraAbsx w => Sys2Proof.Machine.execOraAbsx w s
  | .oraAbsy w => Sys2Proof.Machine.execOraAbsy w s
  | .oraIndx op1 => Sys2Proof.Machine.execOraIndx op1 s
  | .oraIndy op1 => Sys2Proof.Machine.execOraIndy op1 s
  -- EOR, R175
  | .eorImm op1 => Sys2Proof.Machine.execEorImm op1 s
  | .eorZp op1 => Sys2Proof.Machine.execEorZp op1 s
  | .eorZpx op1 => Sys2Proof.Machine.execEorZpx op1 s
  | .eorAbs w => Sys2Proof.Machine.execEorAbs w s
  | .eorAbsx w => Sys2Proof.Machine.execEorAbsx w s
  | .eorAbsy w => Sys2Proof.Machine.execEorAbsy w s
  | .eorIndx op1 => Sys2Proof.Machine.execEorIndx op1 s
  | .eorIndy op1 => Sys2Proof.Machine.execEorIndy op1 s
  -- BIT, R176
  | .bitZp op1 => Sys2Proof.Machine.execBitZp op1 s
  | .bitAbs w => Sys2Proof.Machine.execBitAbs w s
  -- CMP, R177
  | .cmpImm op1 => Sys2Proof.Machine.execCmpImm op1 s
  | .cmpZp op1 => Sys2Proof.Machine.execCmpZp op1 s
  | .cmpZpx op1 => Sys2Proof.Machine.execCmpZpx op1 s
  | .cmpAbs w => Sys2Proof.Machine.execCmpAbs w s
  | .cmpAbsx w => Sys2Proof.Machine.execCmpAbsx w s
  | .cmpAbsy w => Sys2Proof.Machine.execCmpAbsy w s
  | .cmpIndx op1 => Sys2Proof.Machine.execCmpIndx op1 s
  | .cmpIndy op1 => Sys2Proof.Machine.execCmpIndy op1 s
  -- CPX, R178
  | .cpxImm op1 => Sys2Proof.Machine.execCpxImm op1 s
  | .cpxZp op1 => Sys2Proof.Machine.execCpxZp op1 s
  | .cpxAbs w => Sys2Proof.Machine.execCpxAbs w s
  -- CPY, R179
  | .cpyImm op1 => Sys2Proof.Machine.execCpyImm op1 s
  | .cpyZp op1 => Sys2Proof.Machine.execCpyZp op1 s
  | .cpyAbs w => Sys2Proof.Machine.execCpyAbs w s
  -- INC, R190
  | .incZp op1 => Sys2Proof.Machine.execIncZp op1 s
  | .incZpx op1 => Sys2Proof.Machine.execIncZpx op1 s
  | .incAbs w => Sys2Proof.Machine.execIncAbs w s
  | .incAbsx w => Sys2Proof.Machine.execIncAbsx w s
  -- DEC, R191
  | .decZp op1 => Sys2Proof.Machine.execDecZp op1 s
  | .decZpx op1 => Sys2Proof.Machine.execDecZpx op1 s
  | .decAbs w => Sys2Proof.Machine.execDecAbs w s
  | .decAbsx w => Sys2Proof.Machine.execDecAbsx w s
  -- INX, R192
  | .inx => Sys2Proof.Machine.execInx s
  -- INY, R193
  | .iny => Sys2Proof.Machine.execIny s
  -- DEX, R194
  | .dex => Sys2Proof.Machine.execDex s
  -- DEY, R195
  | .dey => Sys2Proof.Machine.execDey s
  -- ASL, R196
  | .aslAcc => Sys2Proof.Machine.execAslAcc s
  | .aslZp op1 => Sys2Proof.Machine.execAslZp op1 s
  | .aslZpx op1 => Sys2Proof.Machine.execAslZpx op1 s
  | .aslAbs w => Sys2Proof.Machine.execAslAbs w s
  | .aslAbsx w => Sys2Proof.Machine.execAslAbsx w s
  -- LSR, R197
  | .lsrAcc => Sys2Proof.Machine.execLsrAcc s
  | .lsrZp op1 => Sys2Proof.Machine.execLsrZp op1 s
  | .lsrZpx op1 => Sys2Proof.Machine.execLsrZpx op1 s
  | .lsrAbs w => Sys2Proof.Machine.execLsrAbs w s
  | .lsrAbsx w => Sys2Proof.Machine.execLsrAbsx w s
  -- ROL, R198
  | .rolAcc => Sys2Proof.Machine.execRolAcc s
  | .rolZp op1 => Sys2Proof.Machine.execRolZp op1 s
  | .rolZpx op1 => Sys2Proof.Machine.execRolZpx op1 s
  | .rolAbs w => Sys2Proof.Machine.execRolAbs w s
  | .rolAbsx w => Sys2Proof.Machine.execRolAbsx w s
  -- ROR, R199
  | .rorAcc => Sys2Proof.Machine.execRorAcc s
  | .rorZp op1 => Sys2Proof.Machine.execRorZp op1 s
  | .rorZpx op1 => Sys2Proof.Machine.execRorZpx op1 s
  | .rorAbs w => Sys2Proof.Machine.execRorAbs w s
  | .rorAbsx w => Sys2Proof.Machine.execRorAbsx w s
  -- JMP, R210
  | .jmpAbs w => Sys2Proof.Machine.execJmpAbs w s
  | .jmpInd w => Sys2Proof.Machine.execJmpInd w s
  -- JSR, R211
  | .jsr w => Sys2Proof.Machine.execJsr w s
  -- RTS, R212
  | .rts => Sys2Proof.Machine.execRts s
  -- RTI, R213
  | .rti => Sys2Proof.Machine.execRti s
  -- BCC, R215
  | .bcc op1 => Sys2Proof.Machine.execBcc op1 s
  -- BCS, R216
  | .bcs op1 => Sys2Proof.Machine.execBcs op1 s
  -- BEQ, R217
  | .beq op1 => Sys2Proof.Machine.execBeq op1 s
  -- BNE, R218
  | .bne op1 => Sys2Proof.Machine.execBne op1 s
  -- BMI, R219
  | .bmi op1 => Sys2Proof.Machine.execBmi op1 s
  -- BPL, R220
  | .bpl op1 => Sys2Proof.Machine.execBpl op1 s
  -- BVC, R221
  | .bvc op1 => Sys2Proof.Machine.execBvc op1 s
  -- BVS, R222
  | .bvs op1 => Sys2Proof.Machine.execBvs op1 s
  -- BRK, R223
  | .brk => Sys2Proof.Machine.execBrk s
  -- NOP, R224
  | .nop => Sys2Proof.Machine.execNop s
  -- CLC, R240
  | .clc => Sys2Proof.Machine.execClc s
  -- SEC, R241
  | .sec => Sys2Proof.Machine.execSec s
  -- CLI, R242
  | .cli => Sys2Proof.Machine.execCli s
  -- SEI, R243
  | .sei => Sys2Proof.Machine.execSei s
  -- CLD, R244
  | .cld => Sys2Proof.Machine.execCld s
  -- SED, R245
  | .sed => Sys2Proof.Machine.execSed s
  -- CLV, R246
  | .clv => Sys2Proof.Machine.execClv s

end Sys2Proof.Machine
end

