-- ==== Sys2Proof/Decode.lean ====
section
/-! DEFINITION. The decoder, from the opcode map of R86 (row = high nibble, column = low nibble), and after it the encoder, from the
table by mnemonic of R87. The two are written from the spec's two tables, so that their agreement says something. -/

namespace Sys2Proof

/-- The number of operand bytes is a function of the mode alone (R82). -/
def Mode.operandBytes : Mode → Nat
  | .imp => 0
  | .acc => 0
  | .imm => 1
  | .zp => 1
  | .zpx => 1
  | .zpy => 1
  | .rel => 1
  | .indx => 1
  | .indy => 1
  | .abs => 2
  | .absx => 2
  | .absy => 2
  | .ind => 2

/-- The length in bytes: 1, 2 or 3 (R80, R82). -/
def Instr.length (i : Instr) : Nat := 1 + i.mode.operandBytes

/-- A cell of the opcode map: undefined (`--`), or what it makes of 0, 1 or 2 operand bytes (R80, R81). -/
inductive OpEntry where
  | undef
  | op0 (i : Instr)
  | op1 (f : Byte → Instr)
  | op2 (f : Word → Instr)

/-- Why bytes are not an instruction. `undefinedOpcode` is the spec's (R84, R88); the other two are of the list form alone, where
bytes can run out, which they never do in memory (R83). -/
inductive DecodeError where
  | undefinedOpcode (opcode : Byte)
  | truncated (opcode : Byte)
  | noBytes
  deriving DecidableEq, Repr

/-- The decoder's answer: an instruction and the bytes after it, or a rejection by name. -/
inductive DecodeResult where
  | ok (i : Instr) (rest : List Byte)
  | rejected (e : DecodeError)
  deriving DecidableEq, Repr

namespace OpcodeMap
open OpEntry

/-- Row 0x of R86. -/
def row0 : List OpEntry :=
  [op0 .brk, op1 .oraIndx, undef, undef, undef, op1 .oraZp, op1 .aslZp, undef,
   op0 .php, op1 .oraImm, op0 .aslAcc, undef, undef, op2 .oraAbs, op2 .aslAbs, undef]

/-- Row 1x of R86. -/
def row1 : List OpEntry :=
  [op1 .bpl, op1 .oraIndy, undef, undef, undef, op1 .oraZpx, op1 .aslZpx, undef,
   op0 .clc, op2 .oraAbsy, undef, undef, undef, op2 .oraAbsx, op2 .aslAbsx, undef]

/-- Row 2x of R86. -/
def row2 : List OpEntry :=
  [op2 .jsr, op1 .andIndx, undef, undef, op1 .bitZp, op1 .andZp, op1 .rolZp, undef,
   op0 .plp, op1 .andImm, op0 .rolAcc, undef, op2 .bitAbs, op2 .andAbs, op2 .rolAbs, undef]

/-- Row 3x of R86. -/
def row3 : List OpEntry :=
  [op1 .bmi, op1 .andIndy, undef, undef, undef, op1 .andZpx, op1 .rolZpx, undef,
   op0 .sec, op2 .andAbsy, undef, undef, undef, op2 .andAbsx, op2 .rolAbsx, undef]

/-- Row 4x of R86. -/
def row4 : List OpEntry :=
  [op0 .rti, op1 .eorIndx, undef, undef, undef, op1 .eorZp, op1 .lsrZp, undef,
   op0 .pha, op1 .eorImm, op0 .lsrAcc, undef, op2 .jmpAbs, op2 .eorAbs, op2 .lsrAbs, undef]

/-- Row 5x of R86. -/
def row5 : List OpEntry :=
  [op1 .bvc, op1 .eorIndy, undef, undef, undef, op1 .eorZpx, op1 .lsrZpx, undef,
   op0 .cli, op2 .eorAbsy, undef, undef, undef, op2 .eorAbsx, op2 .lsrAbsx, undef]

/-- Row 6x of R86. -/
def row6 : List OpEntry :=
  [op0 .rts, op1 .adcIndx, undef, undef, undef, op1 .adcZp, op1 .rorZp, undef,
   op0 .pla, op1 .adcImm, op0 .rorAcc, undef, op2 .jmpInd, op2 .adcAbs, op2 .rorAbs, undef]

/-- Row 7x of R86. -/
def row7 : List OpEntry :=
  [op1 .bvs, op1 .adcIndy, undef, undef, undef, op1 .adcZpx, op1 .rorZpx, undef,
   op0 .sei, op2 .adcAbsy, undef, undef, undef, op2 .adcAbsx, op2 .rorAbsx, undef]

/-- Row 8x of R86. -/
def row8 : List OpEntry :=
  [undef, op1 .staIndx, undef, undef, op1 .styZp, op1 .staZp, op1 .stxZp, undef,
   op0 .dey, undef, op0 .txa, undef, op2 .styAbs, op2 .staAbs, op2 .stxAbs, undef]

/-- Row 9x of R86. -/
def row9 : List OpEntry :=
  [op1 .bcc, op1 .staIndy, undef, undef, op1 .styZpx, op1 .staZpx, op1 .stxZpy, undef,
   op0 .tya, op2 .staAbsy, op0 .txs, undef, undef, op2 .staAbsx, undef, undef]

/-- Row Ax of R86. -/
def rowA : List OpEntry :=
  [op1 .ldyImm, op1 .ldaIndx, op1 .ldxImm, undef, op1 .ldyZp, op1 .ldaZp, op1 .ldxZp, undef,
   op0 .tay, op1 .ldaImm, op0 .tax, undef, op2 .ldyAbs, op2 .ldaAbs, op2 .ldxAbs, undef]

/-- Row Bx of R86. -/
def rowB : List OpEntry :=
  [op1 .bcs, op1 .ldaIndy, undef, undef, op1 .ldyZpx, op1 .ldaZpx, op1 .ldxZpy, undef,
   op0 .clv, op2 .ldaAbsy, op0 .tsx, undef, op2 .ldyAbsx, op2 .ldaAbsx, op2 .ldxAbsy, undef]

/-- Row Cx of R86. -/
def rowC : List OpEntry :=
  [op1 .cpyImm, op1 .cmpIndx, undef, undef, op1 .cpyZp, op1 .cmpZp, op1 .decZp, undef,
   op0 .iny, op1 .cmpImm, op0 .dex, undef, op2 .cpyAbs, op2 .cmpAbs, op2 .decAbs, undef]

/-- Row Dx of R86. -/
def rowD : List OpEntry :=
  [op1 .bne, op1 .cmpIndy, undef, undef, undef, op1 .cmpZpx, op1 .decZpx, undef,
   op0 .cld, op2 .cmpAbsy, undef, undef, undef, op2 .cmpAbsx, op2 .decAbsx, undef]

/-- Row Ex of R86. -/
def rowE : List OpEntry :=
  [op1 .cpxImm, op1 .sbcIndx, undef, undef, op1 .cpxZp, op1 .sbcZp, op1 .incZp, undef,
   op0 .inx, op1 .sbcImm, op0 .nop, undef, op2 .cpxAbs, op2 .sbcAbs, op2 .incAbs, undef]

/-- Row Fx of R86. -/
def rowF : List OpEntry :=
  [op1 .beq, op1 .sbcIndy, undef, undef, undef, op1 .sbcZpx, op1 .incZpx, undef,
   op0 .sed, op2 .sbcAbsy, undef, undef, undef, op2 .sbcAbsx, op2 .incAbsx, undef]

end OpcodeMap

/-- The 16 rows of R86. -/
def opcodeMap : List (List OpEntry) :=
  [OpcodeMap.row0, OpcodeMap.row1, OpcodeMap.row2, OpcodeMap.row3] ++
  [OpcodeMap.row4, OpcodeMap.row5, OpcodeMap.row6, OpcodeMap.row7] ++
  [OpcodeMap.row8, OpcodeMap.row9, OpcodeMap.rowA, OpcodeMap.rowB] ++
  [OpcodeMap.rowC, OpcodeMap.rowD, OpcodeMap.rowE, OpcodeMap.rowF]

/-- "Decoding is a lookup of the opcode byte in a static table of 256 entries" (R81). -/
def opEntry (b : Byte) : OpEntry :=
  (opcodeMap.getD (b.toNat / 16) []).getD (b.toNat % 16) .undef

def OpEntry.isDefined : OpEntry → Bool
  | .undef => false
  | .op0 _ => true
  | .op1 _ => true
  | .op2 _ => true

/-- How many operand bytes the cell calls for. -/
def OpEntry.operandBytes : OpEntry → Nat
  | .undef => 0
  | .op0 _ => 0
  | .op1 _ => 1
  | .op2 _ => 2

/-- `Decode(b)` (R84): the descriptor of a defined opcode, else none. -/
def decodeOpcode (b : Byte) : Option Descriptor :=
  match opEntry b with
  | .undef => none
  | .op0 i => some i.descriptor
  | .op1 f => some (f 0#8).descriptor
  | .op2 f => some (f 0#16).descriptor

/-- Decoding a list of bytes, lowest address first; a 2-byte operand is little-endian (R83). Total, and rejects by name. -/
def decode : List Byte → DecodeResult
  | [] => .rejected .noBytes
  | b :: rest =>
    match opEntry b, rest with
    | .undef, _ => .rejected (.undefinedOpcode b)
    | .op0 i, rest => .ok i rest
    | .op1 f, p :: rest => .ok (f p) rest
    | .op2 f, p :: q :: rest => .ok (f (word q p)) rest
    | .op1 _, [] => .rejected (.truncated b)
    | .op2 _, [] => .rejected (.truncated b)
    | .op2 _, [_] => .rejected (.truncated b)

/-- The bytes of a table word: bit 0 is the least significant bit of the first byte, the bits from `nbits` on are 0, 3 bytes (the
longest instruction) in all. -/
def tableWordBytes (nbits w : Nat) : List Byte :=
  let v := w % 2 ^ nbits
  [BitVec.ofNat 8 v, BitVec.ofNat 8 (v / 256), BitVec.ofNat 8 (v / 65536)]

/-- The instruction the decoder reads from a table word. -/
def decodeTableWord (nbits w : Nat) : Option Instr :=
  match decode (tableWordBytes nbits w) with
  | .ok i _ => some i
  | .rejected _ => none

/-- The table by mnemonic of R87: each mode of a mnemonic with its opcode byte. -/
def opcodeRow : Mnemonic → List (Mode × Byte)
  | .lda => [(.imm, 0xA9#8), (.zp, 0xA5#8), (.zpx, 0xB5#8), (.abs, 0xAD#8),
      (.absx, 0xBD#8), (.absy, 0xB9#8), (.indx, 0xA1#8), (.indy, 0xB1#8)]
  | .ldx => [(.imm, 0xA2#8), (.zp, 0xA6#8), (.zpy, 0xB6#8), (.abs, 0xAE#8), (.absy, 0xBE#8)]
  | .ldy => [(.imm, 0xA0#8), (.zp, 0xA4#8), (.zpx, 0xB4#8), (.abs, 0xAC#8), (.absx, 0xBC#8)]
  | .sta => [(.zp, 0x85#8), (.zpx, 0x95#8), (.abs, 0x8D#8), (.absx, 0x9D#8),
      (.absy, 0x99#8), (.indx, 0x81#8), (.indy, 0x91#8)]
  | .stx => [(.zp, 0x86#8), (.zpy, 0x96#8), (.abs, 0x8E#8)]
  | .sty => [(.zp, 0x84#8), (.zpx, 0x94#8), (.abs, 0x8C#8)]
  | .tax => [(.imp, 0xAA#8)]
  | .tay => [(.imp, 0xA8#8)]
  | .txa => [(.imp, 0x8A#8)]
  | .tya => [(.imp, 0x98#8)]
  | .tsx => [(.imp, 0xBA#8)]
  | .txs => [(.imp, 0x9A#8)]
  | .pha => [(.imp, 0x48#8)]
  | .php => [(.imp, 0x08#8)]
  | .pla => [(.imp, 0x68#8)]
  | .plp => [(.imp, 0x28#8)]
  | .adc => [(.imm, 0x69#8), (.zp, 0x65#8), (.zpx, 0x75#8), (.abs, 0x6D#8),
      (.absx, 0x7D#8), (.absy, 0x79#8), (.indx, 0x61#8), (.indy, 0x71#8)]
  | .sbc => [(.imm, 0xE9#8), (.zp, 0xE5#8), (.zpx, 0xF5#8), (.abs, 0xED#8),
      (.absx, 0xFD#8), (.absy, 0xF9#8), (.indx, 0xE1#8), (.indy, 0xF1#8)]
  | .and => [(.imm, 0x29#8), (.zp, 0x25#8), (.zpx, 0x35#8), (.abs, 0x2D#8),
      (.absx, 0x3D#8), (.absy, 0x39#8), (.indx, 0x21#8), (.indy, 0x31#8)]
  | .ora => [(.imm, 0x09#8), (.zp, 0x05#8), (.zpx, 0x15#8), (.abs, 0x0D#8),
      (.absx, 0x1D#8), (.absy, 0x19#8), (.indx, 0x01#8), (.indy, 0x11#8)]
  | .eor => [(.imm, 0x49#8), (.zp, 0x45#8), (.zpx, 0x55#8), (.abs, 0x4D#8),
      (.absx, 0x5D#8), (.absy, 0x59#8), (.indx, 0x41#8), (.indy, 0x51#8)]
  | .bit => [(.zp, 0x24#8), (.abs, 0x2C#8)]
  | .cmp => [(.imm, 0xC9#8), (.zp, 0xC5#8), (.zpx, 0xD5#8), (.abs, 0xCD#8),
      (.absx, 0xDD#8), (.absy, 0xD9#8), (.indx, 0xC1#8), (.indy, 0xD1#8)]
  | .cpx => [(.imm, 0xE0#8), (.zp, 0xE4#8), (.abs, 0xEC#8)]
  | .cpy => [(.imm, 0xC0#8), (.zp, 0xC4#8), (.abs, 0xCC#8)]
  | .inc => [(.zp, 0xE6#8), (.zpx, 0xF6#8), (.abs, 0xEE#8), (.absx, 0xFE#8)]
  | .dec => [(.zp, 0xC6#8), (.zpx, 0xD6#8), (.abs, 0xCE#8), (.absx, 0xDE#8)]
  | .inx => [(.imp, 0xE8#8)]
  | .iny => [(.imp, 0xC8#8)]
  | .dex => [(.imp, 0xCA#8)]
  | .dey => [(.imp, 0x88#8)]
  | .asl => [(.acc, 0x0A#8), (.zp, 0x06#8), (.zpx, 0x16#8), (.abs, 0x0E#8), (.absx, 0x1E#8)]
  | .lsr => [(.acc, 0x4A#8), (.zp, 0x46#8), (.zpx, 0x56#8), (.abs, 0x4E#8), (.absx, 0x5E#8)]
  | .rol => [(.acc, 0x2A#8), (.zp, 0x26#8), (.zpx, 0x36#8), (.abs, 0x2E#8), (.absx, 0x3E#8)]
  | .ror => [(.acc, 0x6A#8), (.zp, 0x66#8), (.zpx, 0x76#8), (.abs, 0x6E#8), (.absx, 0x7E#8)]
  | .jmp => [(.abs, 0x4C#8), (.ind, 0x6C#8)]
  | .jsr => [(.abs, 0x20#8)]
  | .rts => [(.imp, 0x60#8)]
  | .rti => [(.imp, 0x40#8)]
  | .bcc => [(.rel, 0x90#8)]
  | .bcs => [(.rel, 0xB0#8)]
  | .beq => [(.rel, 0xF0#8)]
  | .bne => [(.rel, 0xD0#8)]
  | .bmi => [(.rel, 0x30#8)]
  | .bpl => [(.rel, 0x10#8)]
  | .bvc => [(.rel, 0x50#8)]
  | .bvs => [(.rel, 0x70#8)]
  | .brk => [(.imp, 0x00#8)]
  | .nop => [(.imp, 0xEA#8)]
  | .clc => [(.imp, 0x18#8)]
  | .sec => [(.imp, 0x38#8)]
  | .cli => [(.imp, 0x58#8)]
  | .sei => [(.imp, 0x78#8)]
  | .cld => [(.imp, 0xD8#8)]
  | .sed => [(.imp, 0xF8#8)]
  | .clv => [(.imp, 0xB8#8)]

/-- The opcode byte of a mnemonic in a mode, where R87 has the cell. -/
def opcodeOf (m : Mnemonic) (md : Mode) : Option Byte := (opcodeRow m).lookup md

/-- The operand bytes, low byte first (R83). -/
def Operand.bytes : Operand → List Byte
  | .imp => []
  | .acc => []
  | .imm op1 => [op1]
  | .zp op1 => [op1]
  | .zpx op1 => [op1]
  | .zpy op1 => [op1]
  | .rel op1 => [op1]
  | .indx op1 => [op1]
  | .indy op1 => [op1]
  | .abs w => [loByte w, hiByte w]
  | .absx w => [loByte w, hiByte w]
  | .absy w => [loByte w, hiByte w]
  | .ind w => [loByte w, hiByte w]

/-- The bytes of a well-formed instruction: its opcode byte, then its operand bytes. -/
def encode (i : Instr) : List Byte :=
  (opcodeOf i.mnemonic i.mode).toList ++ i.operand.bytes

end Sys2Proof
end

