-- ==== Sys2Proof/Machine/Fetch.lean ====
section
/-! DEFINITION. Fetching an instruction, and what a step adds around its meaning: the PC advance before it (R254) and the debug events
after it (R261 to R264). -/

namespace Sys2Proof.Machine

/-- The bytes a step fetches at PC: the opcode, then as many operand bytes as its length gives, at consecutive addresses modulo 2^16
(R61, R83). -/
def fetchBytes (s : State) : List Byte :=
  let b := s.memRead s.pc
  match (opEntry b).operandBytes with
  | 0 => [b]
  | 1 => [b, s.memRead (s.pc + 1#16)]
  | _ => [b, s.memRead (s.pc + 1#16), s.memRead (s.pc + 2#16)]

/-- The instruction at PC, or none where its opcode is undefined (R84, R254). -/
def fetch (s : State) : Option Instr :=
  match decode (fetchBytes s) with
  | .ok i _ => some i
  | .rejected _ => none

/-- The state in which an instruction's effect begins: `PC <- PC0 +16 L` (R254), and no outcome or event of this step yet. -/
def startStep (i : Instr) (s : State) : State :=
  { s with pc := s.pc + BitVec.ofNat 16 i.length, lastOutcome := .continuing, events := [] }

/-- The CPU event of a completed step, if its channel has an observer (R261). -/
def cpuEvents (i : Instr) (before after : State) : List DebugEvent :=
  if before.observers.cpu.isSome then
    [.cpu i.mnemonic (resolveOperand i.operand (startStep i before)) before.pc before.snapshot after.snapshot]
  else []

/-- The Registers event of a completed step, if its channel has an observer (R263). -/
def registersEvents (before after : State) : List DebugEvent :=
  if before.observers.registers.isSome then [.registers after.snapshot] else []

/-- The end of a completed step: after the Memory events the CPU event, then the Registers event (R263, D20). -/
def endStep (i : Instr) (before after : State) : State :=
  { after with events := after.events ++ cpuEvents i before after ++ registersEvents before after }

/-- A step's answer from its instruction's. -/
def finishStep (i : Instr) (before : State) : Result → Result
  | .next t => .next (endStep i before t)
  | .fault f => .fault f
  | .refused r => .refused r

/-- The fault of a step whose opcode is undefined: PC0 and the byte (R251). -/
def invalidOpcodeAt (s : State) : Fault := .invalidOpcode s.pc (s.memRead s.pc)

/-- Memory with bytes placed from an address on, modulo 2^16, and no event: what the host does, not the core (R262). -/
def placeBytes (m : Memory) (addr : Word) : List Byte → Memory
  | [] => m
  | v :: vs => placeBytes (m.write addr.toNat v) (addr + 1#16) vs

end Sys2Proof.Machine
end

