-- ==== Sys2Proof/Machine/Step.lean ====
section
/-! DEFINITION. One step (R254), and the state whose next step runs a given table word. -/

namespace Sys2Proof.Machine

/-- One step (R254): fetch and decode; an undefined opcode is the fault InvalidOpcode and nothing is written (R251, R255); else PC is
advanced, the instruction has its effect, and the step's events are delivered. Continuing and Halted are both a next state, told apart by
`lastOutcome` (R250, log 4). -/
def step (s : State) : Host.Outcome State Fault Refusal :=
  match fetch s with
  | none => .fault (invalidOpcodeAt s)
  | some i => finishStep i s (exec i (startStep i s))

/-- The state with a table word's bytes stored at PC, where the next step fetches (log 7). -/
def State.withFetchWord (s : State) (nbits w : Nat) : State :=
  { s with mem := placeBytes s.mem s.pc (tableWordBytes nbits w) }

end Sys2Proof.Machine
end

