-- ==== Sys2Proof/Laws/PerInstr.lean ====
section
/-! SUPPORT. The per-instruction family `Encoded`: an instruction is well-formed and its bytes are as many as its length. -/

namespace Sys2Proof.Laws

/-- The instruction is well-formed, and `encode` gives as many bytes as its length (R80, R82). -/
def Encoded.Statement (i : Instr) : Prop := i.wellFormed = true ∧ (encode i).length = i.length

theorem Encoded.ldaImm (op1 : Byte) : Encoded.Statement (.ldaImm op1) := ⟨rfl, rfl⟩
theorem Encoded.ldaZp (op1 : Byte) : Encoded.Statement (.ldaZp op1) := ⟨rfl, rfl⟩
theorem Encoded.ldaZpx (op1 : Byte) : Encoded.Statement (.ldaZpx op1) := ⟨rfl, rfl⟩
theorem Encoded.ldaAbs (w : Word) : Encoded.Statement (.ldaAbs w) := ⟨rfl, rfl⟩
theorem Encoded.ldaAbsx (w : Word) : Encoded.Statement (.ldaAbsx w) := ⟨rfl, rfl⟩
theorem Encoded.ldaAbsy (w : Word) : Encoded.Statement (.ldaAbsy w) := ⟨rfl, rfl⟩
theorem Encoded.ldaIndx (op1 : Byte) : Encoded.Statement (.ldaIndx op1) := ⟨rfl, rfl⟩
theorem Encoded.ldaIndy (op1 : Byte) : Encoded.Statement (.ldaIndy op1) := ⟨rfl, rfl⟩
theorem Encoded.ldxImm (op1 : Byte) : Encoded.Statement (.ldxImm op1) := ⟨rfl, rfl⟩
theorem Encoded.ldxZp (op1 : Byte) : Encoded.Statement (.ldxZp op1) := ⟨rfl, rfl⟩
theorem Encoded.ldxZpy (op1 : Byte) : Encoded.Statement (.ldxZpy op1) := ⟨rfl, rfl⟩
theorem Encoded.ldxAbs (w : Word) : Encoded.Statement (.ldxAbs w) := ⟨rfl, rfl⟩
theorem Encoded.ldxAbsy (w : Word) : Encoded.Statement (.ldxAbsy w) := ⟨rfl, rfl⟩
theorem Encoded.ldyImm (op1 : Byte) : Encoded.Statement (.ldyImm op1) := ⟨rfl, rfl⟩
theorem Encoded.ldyZp (op1 : Byte) : Encoded.Statement (.ldyZp op1) := ⟨rfl, rfl⟩
theorem Encoded.ldyZpx (op1 : Byte) : Encoded.Statement (.ldyZpx op1) := ⟨rfl, rfl⟩
theorem Encoded.ldyAbs (w : Word) : Encoded.Statement (.ldyAbs w) := ⟨rfl, rfl⟩
theorem Encoded.ldyAbsx (w : Word) : Encoded.Statement (.ldyAbsx w) := ⟨rfl, rfl⟩
theorem Encoded.staZp (op1 : Byte) : Encoded.Statement (.staZp op1) := ⟨rfl, rfl⟩
theorem Encoded.staZpx (op1 : Byte) : Encoded.Statement (.staZpx op1) := ⟨rfl, rfl⟩
theorem Encoded.staAbs (w : Word) : Encoded.Statement (.staAbs w) := ⟨rfl, rfl⟩
theorem Encoded.staAbsx (w : Word) : Encoded.Statement (.staAbsx w) := ⟨rfl, rfl⟩
theorem Encoded.staAbsy (w : Word) : Encoded.Statement (.staAbsy w) := ⟨rfl, rfl⟩
theorem Encoded.staIndx (op1 : Byte) : Encoded.Statement (.staIndx op1) := ⟨rfl, rfl⟩
theorem Encoded.staIndy (op1 : Byte) : Encoded.Statement (.staIndy op1) := ⟨rfl, rfl⟩
theorem Encoded.stxZp (op1 : Byte) : Encoded.Statement (.stxZp op1) := ⟨rfl, rfl⟩
theorem Encoded.stxZpy (op1 : Byte) : Encoded.Statement (.stxZpy op1) := ⟨rfl, rfl⟩
theorem Encoded.stxAbs (w : Word) : Encoded.Statement (.stxAbs w) := ⟨rfl, rfl⟩
theorem Encoded.styZp (op1 : Byte) : Encoded.Statement (.styZp op1) := ⟨rfl, rfl⟩
theorem Encoded.styZpx (op1 : Byte) : Encoded.Statement (.styZpx op1) := ⟨rfl, rfl⟩
theorem Encoded.styAbs (w : Word) : Encoded.Statement (.styAbs w) := ⟨rfl, rfl⟩
theorem Encoded.tax : Encoded.Statement .tax := ⟨rfl, rfl⟩
theorem Encoded.tay : Encoded.Statement .tay := ⟨rfl, rfl⟩
theorem Encoded.txa : Encoded.Statement .txa := ⟨rfl, rfl⟩
theorem Encoded.tya : Encoded.Statement .tya := ⟨rfl, rfl⟩
theorem Encoded.tsx : Encoded.Statement .tsx := ⟨rfl, rfl⟩
theorem Encoded.txs : Encoded.Statement .txs := ⟨rfl, rfl⟩
theorem Encoded.pha : Encoded.Statement .pha := ⟨rfl, rfl⟩
theorem Encoded.php : Encoded.Statement .php := ⟨rfl, rfl⟩
theorem Encoded.pla : Encoded.Statement .pla := ⟨rfl, rfl⟩
theorem Encoded.plp : Encoded.Statement .plp := ⟨rfl, rfl⟩
theorem Encoded.adcImm (op1 : Byte) : Encoded.Statement (.adcImm op1) := ⟨rfl, rfl⟩
theorem Encoded.adcZp (op1 : Byte) : Encoded.Statement (.adcZp op1) := ⟨rfl, rfl⟩
theorem Encoded.adcZpx (op1 : Byte) : Encoded.Statement (.adcZpx op1) := ⟨rfl, rfl⟩
theorem Encoded.adcAbs (w : Word) : Encoded.Statement (.adcAbs w) := ⟨rfl, rfl⟩
theorem Encoded.adcAbsx (w : Word) : Encoded.Statement (.adcAbsx w) := ⟨rfl, rfl⟩
theorem Encoded.adcAbsy (w : Word) : Encoded.Statement (.adcAbsy w) := ⟨rfl, rfl⟩
theorem Encoded.adcIndx (op1 : Byte) : Encoded.Statement (.adcIndx op1) := ⟨rfl, rfl⟩
theorem Encoded.adcIndy (op1 : Byte) : Encoded.Statement (.adcIndy op1) := ⟨rfl, rfl⟩
theorem Encoded.sbcImm (op1 : Byte) : Encoded.Statement (.sbcImm op1) := ⟨rfl, rfl⟩
theorem Encoded.sbcZp (op1 : Byte) : Encoded.Statement (.sbcZp op1) := ⟨rfl, rfl⟩
theorem Encoded.sbcZpx (op1 : Byte) : Encoded.Statement (.sbcZpx op1) := ⟨rfl, rfl⟩
theorem Encoded.sbcAbs (w : Word) : Encoded.Statement (.sbcAbs w) := ⟨rfl, rfl⟩
theorem Encoded.sbcAbsx (w : Word) : Encoded.Statement (.sbcAbsx w) := ⟨rfl, rfl⟩
theorem Encoded.sbcAbsy (w : Word) : Encoded.Statement (.sbcAbsy w) := ⟨rfl, rfl⟩
theorem Encoded.sbcIndx (op1 : Byte) : Encoded.Statement (.sbcIndx op1) := ⟨rfl, rfl⟩
theorem Encoded.sbcIndy (op1 : Byte) : Encoded.Statement (.sbcIndy op1) := ⟨rfl, rfl⟩
theorem Encoded.andImm (op1 : Byte) : Encoded.Statement (.andImm op1) := ⟨rfl, rfl⟩
theorem Encoded.andZp (op1 : Byte) : Encoded.Statement (.andZp op1) := ⟨rfl, rfl⟩
theorem Encoded.andZpx (op1 : Byte) : Encoded.Statement (.andZpx op1) := ⟨rfl, rfl⟩
theorem Encoded.andAbs (w : Word) : Encoded.Statement (.andAbs w) := ⟨rfl, rfl⟩
theorem Encoded.andAbsx (w : Word) : Encoded.Statement (.andAbsx w) := ⟨rfl, rfl⟩
theorem Encoded.andAbsy (w : Word) : Encoded.Statement (.andAbsy w) := ⟨rfl, rfl⟩
theorem Encoded.andIndx (op1 : Byte) : Encoded.Statement (.andIndx op1) := ⟨rfl, rfl⟩
theorem Encoded.andIndy (op1 : Byte) : Encoded.Statement (.andIndy op1) := ⟨rfl, rfl⟩
theorem Encoded.oraImm (op1 : Byte) : Encoded.Statement (.oraImm op1) := ⟨rfl, rfl⟩
theorem Encoded.oraZp (op1 : Byte) : Encoded.Statement (.oraZp op1) := ⟨rfl, rfl⟩
theorem Encoded.oraZpx (op1 : Byte) : Encoded.Statement (.oraZpx op1) := ⟨rfl, rfl⟩
theorem Encoded.oraAbs (w : Word) : Encoded.Statement (.oraAbs w) := ⟨rfl, rfl⟩
theorem Encoded.oraAbsx (w : Word) : Encoded.Statement (.oraAbsx w) := ⟨rfl, rfl⟩
theorem Encoded.oraAbsy (w : Word) : Encoded.Statement (.oraAbsy w) := ⟨rfl, rfl⟩
theorem Encoded.oraIndx (op1 : Byte) : Encoded.Statement (.oraIndx op1) := ⟨rfl, rfl⟩
theorem Encoded.oraIndy (op1 : Byte) : Encoded.Statement (.oraIndy op1) := ⟨rfl, rfl⟩
theorem Encoded.eorImm (op1 : Byte) : Encoded.Statement (.eorImm op1) := ⟨rfl, rfl⟩
theorem Encoded.eorZp (op1 : Byte) : Encoded.Statement (.eorZp op1) := ⟨rfl, rfl⟩
theorem Encoded.eorZpx (op1 : Byte) : Encoded.Statement (.eorZpx op1) := ⟨rfl, rfl⟩
theorem Encoded.eorAbs (w : Word) : Encoded.Statement (.eorAbs w) := ⟨rfl, rfl⟩
theorem Encoded.eorAbsx (w : Word) : Encoded.Statement (.eorAbsx w) := ⟨rfl, rfl⟩
theorem Encoded.eorAbsy (w : Word) : Encoded.Statement (.eorAbsy w) := ⟨rfl, rfl⟩
theorem Encoded.eorIndx (op1 : Byte) : Encoded.Statement (.eorIndx op1) := ⟨rfl, rfl⟩
theorem Encoded.eorIndy (op1 : Byte) : Encoded.Statement (.eorIndy op1) := ⟨rfl, rfl⟩
theorem Encoded.bitZp (op1 : Byte) : Encoded.Statement (.bitZp op1) := ⟨rfl, rfl⟩
theorem Encoded.bitAbs (w : Word) : Encoded.Statement (.bitAbs w) := ⟨rfl, rfl⟩
theorem Encoded.cmpImm (op1 : Byte) : Encoded.Statement (.cmpImm op1) := ⟨rfl, rfl⟩
theorem Encoded.cmpZp (op1 : Byte) : Encoded.Statement (.cmpZp op1) := ⟨rfl, rfl⟩
theorem Encoded.cmpZpx (op1 : Byte) : Encoded.Statement (.cmpZpx op1) := ⟨rfl, rfl⟩
theorem Encoded.cmpAbs (w : Word) : Encoded.Statement (.cmpAbs w) := ⟨rfl, rfl⟩
theorem Encoded.cmpAbsx (w : Word) : Encoded.Statement (.cmpAbsx w) := ⟨rfl, rfl⟩
theorem Encoded.cmpAbsy (w : Word) : Encoded.Statement (.cmpAbsy w) := ⟨rfl, rfl⟩
theorem Encoded.cmpIndx (op1 : Byte) : Encoded.Statement (.cmpIndx op1) := ⟨rfl, rfl⟩
theorem Encoded.cmpIndy (op1 : Byte) : Encoded.Statement (.cmpIndy op1) := ⟨rfl, rfl⟩
theorem Encoded.cpxImm (op1 : Byte) : Encoded.Statement (.cpxImm op1) := ⟨rfl, rfl⟩
theorem Encoded.cpxZp (op1 : Byte) : Encoded.Statement (.cpxZp op1) := ⟨rfl, rfl⟩
theorem Encoded.cpxAbs (w : Word) : Encoded.Statement (.cpxAbs w) := ⟨rfl, rfl⟩
theorem Encoded.cpyImm (op1 : Byte) : Encoded.Statement (.cpyImm op1) := ⟨rfl, rfl⟩
theorem Encoded.cpyZp (op1 : Byte) : Encoded.Statement (.cpyZp op1) := ⟨rfl, rfl⟩
theorem Encoded.cpyAbs (w : Word) : Encoded.Statement (.cpyAbs w) := ⟨rfl, rfl⟩
theorem Encoded.incZp (op1 : Byte) : Encoded.Statement (.incZp op1) := ⟨rfl, rfl⟩
theorem Encoded.incZpx (op1 : Byte) : Encoded.Statement (.incZpx op1) := ⟨rfl, rfl⟩
theorem Encoded.incAbs (w : Word) : Encoded.Statement (.incAbs w) := ⟨rfl, rfl⟩
theorem Encoded.incAbsx (w : Word) : Encoded.Statement (.incAbsx w) := ⟨rfl, rfl⟩
theorem Encoded.decZp (op1 : Byte) : Encoded.Statement (.decZp op1) := ⟨rfl, rfl⟩
theorem Encoded.decZpx (op1 : Byte) : Encoded.Statement (.decZpx op1) := ⟨rfl, rfl⟩
theorem Encoded.decAbs (w : Word) : Encoded.Statement (.decAbs w) := ⟨rfl, rfl⟩
theorem Encoded.decAbsx (w : Word) : Encoded.Statement (.decAbsx w) := ⟨rfl, rfl⟩
theorem Encoded.inx : Encoded.Statement .inx := ⟨rfl, rfl⟩
theorem Encoded.iny : Encoded.Statement .iny := ⟨rfl, rfl⟩
theorem Encoded.dex : Encoded.Statement .dex := ⟨rfl, rfl⟩
theorem Encoded.dey : Encoded.Statement .dey := ⟨rfl, rfl⟩
theorem Encoded.aslAcc : Encoded.Statement .aslAcc := ⟨rfl, rfl⟩
theorem Encoded.aslZp (op1 : Byte) : Encoded.Statement (.aslZp op1) := ⟨rfl, rfl⟩
theorem Encoded.aslZpx (op1 : Byte) : Encoded.Statement (.aslZpx op1) := ⟨rfl, rfl⟩
theorem Encoded.aslAbs (w : Word) : Encoded.Statement (.aslAbs w) := ⟨rfl, rfl⟩
theorem Encoded.aslAbsx (w : Word) : Encoded.Statement (.aslAbsx w) := ⟨rfl, rfl⟩
theorem Encoded.lsrAcc : Encoded.Statement .lsrAcc := ⟨rfl, rfl⟩
theorem Encoded.lsrZp (op1 : Byte) : Encoded.Statement (.lsrZp op1) := ⟨rfl, rfl⟩
theorem Encoded.lsrZpx (op1 : Byte) : Encoded.Statement (.lsrZpx op1) := ⟨rfl, rfl⟩
theorem Encoded.lsrAbs (w : Word) : Encoded.Statement (.lsrAbs w) := ⟨rfl, rfl⟩
theorem Encoded.lsrAbsx (w : Word) : Encoded.Statement (.lsrAbsx w) := ⟨rfl, rfl⟩
theorem Encoded.rolAcc : Encoded.Statement .rolAcc := ⟨rfl, rfl⟩
theorem Encoded.rolZp (op1 : Byte) : Encoded.Statement (.rolZp op1) := ⟨rfl, rfl⟩
theorem Encoded.rolZpx (op1 : Byte) : Encoded.Statement (.rolZpx op1) := ⟨rfl, rfl⟩
theorem Encoded.rolAbs (w : Word) : Encoded.Statement (.rolAbs w) := ⟨rfl, rfl⟩
theorem Encoded.rolAbsx (w : Word) : Encoded.Statement (.rolAbsx w) := ⟨rfl, rfl⟩
theorem Encoded.rorAcc : Encoded.Statement .rorAcc := ⟨rfl, rfl⟩
theorem Encoded.rorZp (op1 : Byte) : Encoded.Statement (.rorZp op1) := ⟨rfl, rfl⟩
theorem Encoded.rorZpx (op1 : Byte) : Encoded.Statement (.rorZpx op1) := ⟨rfl, rfl⟩
theorem Encoded.rorAbs (w : Word) : Encoded.Statement (.rorAbs w) := ⟨rfl, rfl⟩
theorem Encoded.rorAbsx (w : Word) : Encoded.Statement (.rorAbsx w) := ⟨rfl, rfl⟩
theorem Encoded.jmpAbs (w : Word) : Encoded.Statement (.jmpAbs w) := ⟨rfl, rfl⟩
theorem Encoded.jmpInd (w : Word) : Encoded.Statement (.jmpInd w) := ⟨rfl, rfl⟩
theorem Encoded.jsr (w : Word) : Encoded.Statement (.jsr w) := ⟨rfl, rfl⟩
theorem Encoded.rts : Encoded.Statement .rts := ⟨rfl, rfl⟩
theorem Encoded.rti : Encoded.Statement .rti := ⟨rfl, rfl⟩
theorem Encoded.bcc (op1 : Byte) : Encoded.Statement (.bcc op1) := ⟨rfl, rfl⟩
theorem Encoded.bcs (op1 : Byte) : Encoded.Statement (.bcs op1) := ⟨rfl, rfl⟩
theorem Encoded.beq (op1 : Byte) : Encoded.Statement (.beq op1) := ⟨rfl, rfl⟩
theorem Encoded.bne (op1 : Byte) : Encoded.Statement (.bne op1) := ⟨rfl, rfl⟩
theorem Encoded.bmi (op1 : Byte) : Encoded.Statement (.bmi op1) := ⟨rfl, rfl⟩
theorem Encoded.bpl (op1 : Byte) : Encoded.Statement (.bpl op1) := ⟨rfl, rfl⟩
theorem Encoded.bvc (op1 : Byte) : Encoded.Statement (.bvc op1) := ⟨rfl, rfl⟩
theorem Encoded.bvs (op1 : Byte) : Encoded.Statement (.bvs op1) := ⟨rfl, rfl⟩
theorem Encoded.brk : Encoded.Statement .brk := ⟨rfl, rfl⟩
theorem Encoded.nop : Encoded.Statement .nop := ⟨rfl, rfl⟩
theorem Encoded.clc : Encoded.Statement .clc := ⟨rfl, rfl⟩
theorem Encoded.sec : Encoded.Statement .sec := ⟨rfl, rfl⟩
theorem Encoded.cli : Encoded.Statement .cli := ⟨rfl, rfl⟩
theorem Encoded.sei : Encoded.Statement .sei := ⟨rfl, rfl⟩
theorem Encoded.cld : Encoded.Statement .cld := ⟨rfl, rfl⟩
theorem Encoded.sed : Encoded.Statement .sed := ⟨rfl, rfl⟩
theorem Encoded.clv : Encoded.Statement .clv := ⟨rfl, rfl⟩

end Sys2Proof.Laws
end

