-- ==== Sys2Proof/Machine/Access.lean ====
section
/-! DEFINITION. The transactions on the memory port (R52): the reads and writes a step performs, in the order of R61, and no other (no
dummy read, one write in a read-modify-write: R105, R106, D13). They are a function of the state, not state: a read has no effect (R50), so
the meanings do not record them. The statements tie the list to what `exec` does to memory. -/

namespace Sys2Proof.Machine

/-- One transaction: "a 16-bit address, an 8-bit data value and a read/write control" (R52). -/
inductive Access where
  | read (addr : Word) (v : Byte)
  | write (addr : Word) (v : Byte)
  deriving DecidableEq, Repr

/-- The read transaction at an address: it returns the byte there. -/
def State.readAt (s : State) (addr : Word) : Access := .read addr (s.memRead addr)

/-- The opcode fetch, then as many operand fetches as the length gives; an undefined opcode is fetched alone (R61, R83, R255). -/
def fetchAccesses (s : State) : List Access :=
  match (opEntry (s.memRead s.pc)).operandBytes with
  | 0 => [s.readAt s.pc]
  | 1 => [s.readAt s.pc, s.readAt (s.pc + 1#16)]
  | _ => [s.readAt s.pc, s.readAt (s.pc + 1#16), s.readAt (s.pc + 2#16)]

/-- The two reads of a zero-page pointer (R102, R103). -/
def zpPointerAccesses (p : Byte) (s : State) : List Access := [s.readAt (zext16 p), s.readAt (zext16 (p + 1#8))]

/-- The pointer reads of the addressing mode, low byte first (R101 to R103). -/
def pointerAccesses : Operand → State → List Access
  | .indx op1, s => zpPointerAccesses (op1 + s.x) s
  | .indy op1, s => zpPointerAccesses op1 s
  | .ind w, s => [s.readAt w, s.readAt (indHiAddr s.params.jmpIndPageWrap w)]
  | _, _ => []

/-- `M = MemRead(EA, 1)`, exactly once, in every mode with an EA (R105). -/
def operandRead (o : Operand) (s : State) : List Access := ((effectiveAddress o s).map s.readAt).toList

/-- `MemWrite(EA, 1, v)`. -/
def operandWrite (o : Operand) (v : Byte) (s : State) : List Access := ((effectiveAddress o s).map fun ea => .write ea v).toList

/-- One read, then one write of the same address; the accumulator form accesses no memory (R106). -/
def modifyAccesses (o : Operand) (r : Byte → Byte) (s : State) : List Access :=
  match effectiveAddress o s with
  | some ea => [s.readAt ea, .write ea (r (s.memRead ea))]
  | none => []

/-- The reads of `n` pulls (R57). -/
def pullAccesses (sp : Byte) (s : State) : Nat → List Access
  | 0 => []
  | n + 1 => s.readAt (stackAddr (sp + 1#8)) :: pullAccesses (sp + 1#8) s n

/-- The accesses of an instruction's rule, after its pointer reads (R61, R105, R106, R130 to R246). -/
def effectAccesses (i : Instr) (s : State) : List Access :=
  match i.mnemonic with
  | .lda | .ldx | .ldy | .adc | .sbc | .and | .ora | .eor | .bit | .cmp | .cpx | .cpy => operandRead i.operand s
  | .sta => operandWrite i.operand s.a s
  | .stx => operandWrite i.operand s.x s
  | .sty => operandWrite i.operand s.y s
  | .inc => modifyAccesses i.operand (fun v => v + 1#8) s
  | .dec => modifyAccesses i.operand (fun v => v - 1#8) s
  | .asl => modifyAccesses i.operand (fun v => (aslByte v).result) s
  | .lsr => modifyAccesses i.operand (fun v => (lsrByte v).result) s
  | .rol => modifyAccesses i.operand (fun v => (rolByte (s.flag .c) v).result) s
  | .ror => modifyAccesses i.operand (fun v => (rorByte (s.flag .c) v).result) s
  | .pha => [.write (stackAddr s.sp) s.a]
  | .php => [.write (stackAddr s.sp) (s.pByte ||| 0x30#8)]
  | .pla | .plp => pullAccesses s.sp s 1
  | .rts => pullAccesses s.sp s 2
  | .rti => pullAccesses s.sp s 3
  | .jsr => [.write (stackAddr s.sp) (hiByte (s.pc - 1#16)), .write (stackAddr (s.sp - 1#8)) (loByte (s.pc - 1#16))]
  | .tax | .tay | .txa | .tya | .tsx | .txs | .inx | .iny | .dex | .dey | .jmp | .brk | .nop => []
  | .bcc | .bcs | .beq | .bne | .bmi | .bpl | .bvc | .bvs | .clc | .sec | .cli | .sei | .cld | .sed | .clv => []

/-- The transactions of a step in order (R61). -/
def stepAccesses (s : State) : List Access :=
  fetchAccesses s ++
    match fetch s with
    | some i => pointerAccesses i.operand (startStep i s) ++ effectAccesses i (startStep i s)
    | none => []

/-- What a transaction leaves in memory: a read nothing, a write its byte. -/
def Access.apply (m : Memory) : Access → Memory
  | .read _ _ => m
  | .write addr v => m.write addr.toNat v

end Sys2Proof.Machine
end

