-- ==== Sys2Proof/Machine/Assembler.lean ====
section
/-! DEFINITION. The toolchain: the two-pass assembler's syntax, operand sizing, encoding and errors (R107 to R117). A text is a `String`;
the result is the image, an AssemblyError with its line, or, for a text the spec gives no meaning (D21, U8, U9), `outsideSpec`. Lines are
numbered from 1 (W4). What the spec does not fix (white space, the letters of an identifier, which of several errors is reported) is in
log 13, what is refused in log 14. -/

namespace Sys2Proof.Machine

/-- The AssemblyError kinds of R115. -/
inductive AsmErrorKind where
  | unknownMnemonic
  | invalidOperand
  | duplicateLabel
  | undefinedLabel
  | branchOutOfRange
  deriving DecidableEq, Repr

/-- "A failure is reported as `{line, kind, message}`" (R115); the message as data: the word, label or operand it names (D9). -/
structure AsmError where
  line : Nat
  kind : AsmErrorKind
  message : List Char
  deriving DecidableEq, Repr

/-- Texts the spec gives no meaning to, by name. -/
inductive OutsideSpec where
  /-- A decimal literal in an operand the mnemonic could have: "optionally supported", refused (R110, U8). -/
  | decimalLiteral
  /-- A line that begins with a full stop: directives are not defined (R117, U9). -/
  | directive
  /-- A mnemonic not in upper case: acceptance is not given (R108, D21). -/
  | mnemonicCase
  /-- A label definition whose name is not an identifier as log 13 has them. -/
  | labelName
  deriving DecidableEq, Repr

/-- `Result<ByteImage, AssemblyError>` (R107), and the texts outside the spec. -/
inductive AsmResult where
  | image (bytes : List Byte)
  | error (e : AsmError)
  | outsideSpec (line : Nat) (why : OutsideSpec)
  deriving DecidableEq, Repr

/-- A value in an operand: a hexadecimal or a decimal number, or a label (R110, R111). -/
inductive AsmValue where
  | num (n : Nat)
  | dec (n : Nat)
  | label (l : List Char)
  deriving DecidableEq, Repr

/-- The operand shapes of R111; the shape `A` is the plain label `A` until the mnemonic is known. -/
inductive AsmOperand where
  | none
  | imm (v : AsmValue)
  | addr (v : AsmValue)
  | addrX (v : AsmValue)
  | addrY (v : AsmValue)
  | ind (v : AsmValue)
  | indX (v : AsmValue)
  | indY (v : AsmValue)
  deriving DecidableEq, Repr

/-- "A line is one of: blank/comment, label definition, or instruction" (R108). -/
inductive AsmLine where
  | blank
  | label (l : List Char)
  | instr (m : Mnemonic) (o : AsmOperand)
  deriving DecidableEq, Repr

/-- A part of a line read, or why not. -/
inductive Parsed (α : Type) where
  | ok (a : α)
  | bad (k : AsmErrorKind) (message : List Char)
  | outside (why : OutsideSpec)
  deriving DecidableEq, Repr

/-- The 56 mnemonics. -/
def allMnemonics : List Mnemonic :=
  [.lda, .ldx, .ldy, .sta, .stx, .sty, .tax, .tay, .txa, .tya, .tsx, .txs, .pha, .php] ++
  [.pla, .plp, .adc, .sbc, .and, .ora, .eor, .bit, .cmp, .cpx, .cpy, .inc, .dec, .inx] ++
  [.iny, .dex, .dey, .asl, .lsr, .rol, .ror, .jmp, .jsr, .rts, .rti, .bcc, .bcs, .beq] ++
  [.bne, .bmi, .bpl, .bvc, .bvs, .brk, .nop, .clc, .sec, .cli, .sei, .cld, .sed, .clv]

/-- The name of a mnemonic (R87), in upper case (R108). -/
def mnemonicName : Mnemonic → String
  | .lda => "LDA" | .ldx => "LDX" | .ldy => "LDY" | .sta => "STA" | .stx => "STX" | .sty => "STY"
  | .tax => "TAX" | .tay => "TAY" | .txa => "TXA" | .tya => "TYA" | .tsx => "TSX" | .txs => "TXS"
  | .pha => "PHA" | .php => "PHP" | .pla => "PLA" | .plp => "PLP" | .adc => "ADC" | .sbc => "SBC"
  | .and => "AND" | .ora => "ORA" | .eor => "EOR" | .bit => "BIT" | .cmp => "CMP" | .cpx => "CPX"
  | .cpy => "CPY" | .inc => "INC" | .dec => "DEC" | .inx => "INX" | .iny => "INY" | .dex => "DEX"
  | .dey => "DEY" | .asl => "ASL" | .lsr => "LSR" | .rol => "ROL" | .ror => "ROR" | .jmp => "JMP"
  | .jsr => "JSR" | .rts => "RTS" | .rti => "RTI" | .bcc => "BCC" | .bcs => "BCS" | .beq => "BEQ"
  | .bne => "BNE" | .bmi => "BMI" | .bpl => "BPL" | .bvc => "BVC" | .bvs => "BVS" | .brk => "BRK"
  | .nop => "NOP" | .clc => "CLC" | .sec => "SEC" | .cli => "CLI" | .sei => "SEI" | .cld => "CLD"
  | .sed => "SED" | .clv => "CLV"

def mnemonicOfName (cs : List Char) : Option Mnemonic :=
  allMnemonics.find? fun m => (mnemonicName m).toList == cs

/-! ### Characters and literals -/

def isBlankChar (c : Char) : Bool := c == ' ' || c == '\t' || c == '\r'

def inRange (lo hi c : Char) : Bool := decide (lo.toNat ≤ c.toNat) && decide (c.toNat ≤ hi.toNat)

def isLetter (c : Char) : Bool := inRange 'A' 'Z' c || inRange 'a' 'z' c || c == '_'

def isDecDigit (c : Char) : Bool := inRange '0' '9' c

/-- An identifier: a letter or underscore, then letters, underscores and digits (DESIGN CHOICE, log 13). -/
def isIdent : List Char → Bool
  | [] => false
  | c :: cs => isLetter c && cs.all fun d => isLetter d || isDecDigit d

/-- The value of a hexadecimal digit (R110). -/
def hexDigit (c : Char) : Option Nat :=
  if isDecDigit c then some (c.toNat - '0'.toNat)
  else if inRange 'A' 'F' c then some (c.toNat - 'A'.toNat + 10)
  else if inRange 'a' 'f' c then some (c.toNat - 'a'.toNat + 10)
  else none

/-- The value of hexadecimal digits after those already read (R110). -/
def hexFrom : Nat → List Char → Option Nat
  | acc, [] => some acc
  | acc, c :: cs =>
    match hexDigit c with
    | some d => hexFrom (16 * acc + d) cs
    | none => none

/-- `$` and at least one hexadecimal digit (R110). -/
def hexLiteral : List Char → Option Nat
  | '$' :: c :: cs => hexFrom 0 (c :: cs)
  | _ => none

/-- The value of decimal digits (R110). -/
def decValue (cs : List Char) : Nat := cs.foldl (fun acc c => 10 * acc + (c.toNat - '0'.toNat)) 0

def dropBlanks (cs : List Char) : List Char := cs.dropWhile isBlankChar

def trimBlanks (cs : List Char) : List Char := (dropBlanks (dropBlanks cs).reverse).reverse

/-- What stands before a given ending, if the list has it. -/
def beforeSuffix (ending cs : List Char) : Option (List Char) :=
  if ending.isSuffixOf cs then some (cs.take (cs.length - ending.length)) else none

/-! ### Operands -/

/-- A number or a label (R110, R111). -/
def parseValue (cs : List Char) : Parsed AsmValue :=
  match hexLiteral cs with
  | some n => .ok (.num n)
  | none =>
    if isIdent cs then .ok (.label cs)
    else if !cs.isEmpty && cs.all isDecDigit then .ok (.dec (decValue cs))
    else .bad .invalidOperand cs

def Parsed.map {α β : Type} (f : α → β) : Parsed α → Parsed β
  | .ok a => .ok (f a)
  | .bad k m => .bad k m
  | .outside w => .outside w

/-- What stands after an opening parenthesis: `$nn,X)`, `$nn),Y` or `$nnnn)` (R111). -/
def parseParen (cs : List Char) : Parsed AsmOperand :=
  match beforeSuffix [',', 'X', ')'] cs with
  | some v => (parseValue v).map .indX
  | none =>
    match beforeSuffix [')', ',', 'Y'] cs with
    | some v => (parseValue v).map .indY
    | none =>
      match beforeSuffix [')'] cs with
      | some v => (parseValue v).map .ind
      | none => .bad .invalidOperand cs

/-- A plain, X-indexed or Y-indexed address (R111). -/
def parseAddress (cs : List Char) : Parsed AsmOperand :=
  match beforeSuffix [',', 'X'] cs with
  | some v => (parseValue v).map .addrX
  | none =>
    match beforeSuffix [',', 'Y'] cs with
    | some v => (parseValue v).map .addrY
    | none => (parseValue cs).map .addr

/-- An operand's shape (R111); an operand of no listed shape is InvalidOperand (R111, R115), one with white space inside it too, for
no shape has any. -/
def parseOperand : List Char → Parsed AsmOperand
  | [] => .ok .none
  | '#' :: v => (parseValue v).map .imm
  | '(' :: v => parseParen v
  | v => parseAddress v

/-- A line (R108): its comment cut off (D21), blank, a label definition, or an instruction. DESIGN CHOICE (log 13): the spec names no error
for a line of none of these kinds, as where a label shares it with a statement (`LOOP: STX $11`), a blank stands before the colon (`L :`), or
none before the operand (`LDA#$02`); its first word, up to a blank, is taken for a mnemonic, so it is UnknownMnemonic. -/
def parseLine (text : List Char) : Parsed AsmLine :=
  let cs := trimBlanks (text.takeWhile fun c => c != ';')
  match cs with
  | [] => .ok .blank
  | '.' :: _ => .outside .directive
  | _ =>
    let head := cs.takeWhile fun c => !isBlankChar c
    let rest := dropBlanks (cs.dropWhile fun c => !isBlankChar c)
    match if rest.isEmpty then beforeSuffix [':'] head else none with
    | some l => if isIdent l then .ok (.label l) else .outside .labelName
    | none =>
      match mnemonicOfName head with
      | some m => (parseOperand rest).map (.instr m)
      | none =>
        if (mnemonicOfName (head.map Char.toUpper)).isSome then .outside .mnemonicCase
        else .bad .unknownMnemonic head

/-! ### Choosing the mode -/

def hasMode (m : Mnemonic) (md : Mode) : Bool := Descriptor.wellFormed { mnemonic := m, mode := md }

/-- A numeric address in the zero-page or the absolute mode of its shape: zero page if it fits one byte and the mnemonic has that mode,
else absolute if it fits two bytes and the mnemonic has that (R112, R115). -/
def sizeNumber (m : Mnemonic) (short long : Mode) (n : Nat) : Option Mode :=
  if n < 256 && hasMode m short then some short
  else if n < 65536 && hasMode m long then some long
  else none

/-- The number a value is, if it is one. -/
def AsmValue.number : AsmValue → Option Nat
  | .num n => some n
  | .dec n => some n
  | .label _ => none

/-- A label operand is sized as absolute (R112, D24). -/
def sizeValue (m : Mnemonic) (short long : Mode) (v : AsmValue) : Option Mode :=
  match v.number with
  | some n => sizeNumber m short long n
  | none => if hasMode m long then some long else none

/-- A mode for a number below a bound, where the mnemonic has the mode (R115). -/
def sizeBelow (m : Mnemonic) (bound : Nat) (md : Mode) (n : Nat) : Option Mode :=
  if n < bound && hasMode m md then some md else none

/-- The mode of an operand's shape for a mnemonic (R111, R112), or none: InvalidOperand (R115). A label's value is not known yet and is
checked by `emitOperand`. -/
def selectMode (m : Mnemonic) : AsmOperand → Option Mode
  | .none => if hasMode m .imp then some .imp else if hasMode m .acc then some .acc else none
  | .imm v => v.number.bind (sizeBelow m 256 .imm)
  | .addr v =>
    if hasMode m .acc && v == .label ['A'] then some .acc
    else if hasMode m .rel then sizeBelow m 65536 .rel (v.number.getD 0)
    else sizeValue m .zp .abs v
  | .addrX v => sizeValue m .zpx .absx v
  | .addrY v => sizeValue m .zpy .absy v
  | .ind v => sizeBelow m 65536 .ind (v.number.getD 0)
  | .indX v => v.number.bind (sizeBelow m 256 .indx)
  | .indY v => v.number.bind (sizeBelow m 256 .indy)

/-- The value of an operand's shape, if it has one. -/
def operandAsmValue : AsmOperand → AsmValue
  | .none => .num 0
  | .imm v => v
  | .addr v => v
  | .addrX v => v
  | .addrY v => v
  | .ind v => v
  | .indX v => v
  | .indY v => v

/-- A value written as a decimal literal. -/
def AsmValue.isDecimal : AsmValue → Bool
  | .num _ => false
  | .dec _ => true
  | .label _ => false

/-! ### The two passes -/

/-- An instruction line after pass 1: where it stands and what it is. -/
structure SizedLine where
  line : Nat
  address : Nat
  mnemonic : Mnemonic
  mode : Mode
  value : AsmValue
  deriving DecidableEq, Repr

/-- The symbol table: each label with its address (R109). -/
abbrev SymbolTable := List (List Char × Nat)

/-- What pass 1 has gathered, the sized lines latest first. -/
structure PassOne where
  address : Nat
  symbols : SymbolTable
  sized : List SizedLine
  deriving DecidableEq, Repr

/-- Pass 1 on one line (R109, R114): record a label, or size an instruction. -/
def passOneLine (n : Nat) (text : List Char) (st : PassOne) : Except AsmResult PassOne :=
  match parseLine text with
  | .bad k msg => .error (.error { line := n, kind := k, message := msg })
  | .outside w => .error (.outsideSpec n w)
  | .ok .blank => .ok st
  | .ok (.label l) =>
    match st.symbols.lookup l with
    | some _ => .error (.error { line := n, kind := .duplicateLabel, message := l })
    | none => .ok { st with symbols := (l, st.address) :: st.symbols }
  | .ok (.instr m o) =>
    match selectMode m o with
    | none => .error (.error { line := n, kind := .invalidOperand, message := (mnemonicName m).toList })
    | some md =>
      if (operandAsmValue o).isDecimal then .error (.outsideSpec n .decimalLiteral)
      else
        .ok { st with
          address := st.address + 1 + md.operandBytes
          sized := { line := n, address := st.address, mnemonic := m, mode := md, value := operandAsmValue o } :: st.sized }

/-- Pass 1 over numbered lines (R114). -/
def passOne : Nat → List (List Char) → PassOne → Except AsmResult PassOne
  | _, [], st => .ok st
  | n, l :: ls, st =>
    match passOneLine n l st with
    | .error e => .error e
    | .ok st' => passOne (n + 1) ls st'

/-- The offset of a branch: `target - (address + 2)`, if it lies in [-128, 127] (R113). -/
def branchOffset (address target : Nat) : Option Byte :=
  let d : Int := (target : Int) - ((address : Int) + 2)
  if -128 ≤ d ∧ d ≤ 127 then some (BitVec.ofInt 8 d) else none

/-- The operand bytes of a mode for a resolved value, low byte first (R83, R114), or the error: a value too large for its field, or a
branch target that is no address, is InvalidOperand (R115), an offset out of range BranchOutOfRange (R113). -/
def emitOperand (address : Nat) (md : Mode) (n : Nat) : Except AsmErrorKind (List Byte) :=
  match md with
  | .rel =>
    if n < 65536 then
      match branchOffset address n with
      | some off => .ok [off]
      | none => .error .branchOutOfRange
    else .error .invalidOperand
  | _ =>
    match md.operandBytes with
    | 0 => .ok []
    | 1 => if n < 256 then .ok [BitVec.ofNat 8 n] else .error .invalidOperand
    | _ => if n < 65536 then .ok [BitVec.ofNat 8 n, BitVec.ofNat 8 (n / 256)] else .error .invalidOperand

/-- Pass 2 on one line (R114): resolve its label and emit the opcode, from the table that also decodes (R81), and the operand bytes. -/
def emitLine (symbols : SymbolTable) (l : SizedLine) : Except AsmResult (List Byte) :=
  let emit (n : Nat) (msg : List Char) : Except AsmResult (List Byte) :=
    match emitOperand l.address l.mode n with
    | .ok bytes => .ok ((opcodeOf l.mnemonic l.mode).toList ++ bytes)
    | .error k => .error (.error { line := l.line, kind := k, message := msg })
  match l.value with
  | .num n => emit n (mnemonicName l.mnemonic).toList
  | .dec n => emit n (mnemonicName l.mnemonic).toList
  | .label s =>
    if l.mode = .acc then emit 0 s
    else
      match symbols.lookup s with
      | some a => emit a s
      | none => .error (.error { line := l.line, kind := .undefinedLabel, message := s })

/-- Pass 2: the bytes "in encounter order" (R114). -/
def passTwo (symbols : SymbolTable) : List SizedLine → Except AsmResult (List Byte)
  | [] => .ok []
  | l :: ls =>
    match emitLine symbols l with
    | .error e => .error e
    | .ok bs =>
      match passTwo symbols ls with
      | .error e => .error e
      | .ok rest => .ok (bs ++ rest)

/-- The lines of a text. -/
def splitLines : List Char → List (List Char)
  | [] => [[]]
  | c :: cs =>
    if c = '\n' then [] :: splitLines cs
    else
      match splitLines cs with
      | [] => [[c]]
      | l :: ls => (c :: l) :: ls

/-- `assemble(sourceText)` for a base address (R107, R114); each call has its own symbol table (R116). -/
def assemble (base : Word) (text : String) : AsmResult :=
  match passOne 1 (splitLines text.toList) { address := base.toNat, symbols := [], sized := [] } with
  | .error r => r
  | .ok st =>
    match passTwo st.symbols st.sized.reverse with
    | .error r => r
    | .ok bytes => .image bytes

end Sys2Proof.Machine
end

