-- ==== Sys2Proof/Machine/Facade.lean ====
section
/-! DEFINITION. The host's operations around the core (R280 to R290, the table of R288): reset, load, step, execute, cpu_status,
memory_hexdump, assemble, and the debug-observer setters (R264). The host may call them between steps and never from inside an observer
(R265, U6). Status, dump and events are data, never text (D9). -/

namespace Sys2Proof.Machine

/-- `reset()` (R280): every piece of state to its reset value; the parameters and the registered observers stay. -/
def State.doReset (s : State) : State :=
  { State.resetWith s.params with observers := s.observers }

/-- "`load(image)` copies the image's bytes starting at the fixed base address and sets PC to that base address"; none is ImageTooLarge,
when `BASE_ADDR + n > 0x10000` (R282, R283). No event is emitted (R262). -/
def State.load (s : State) (image : List Byte) : Option State :=
  if s.params.baseAddr.toNat + image.length ≤ 0x10000 then
    some { s with mem := placeBytes s.mem s.params.baseAddr image, pc := s.params.baseAddr }
  else none

/-- The outcome of a step or of a run (R250, R285). -/
inductive RunOutcome where
  | continuing
  | halted
  | error (e : Fault)
  /-- The model's own: `step` refused; no instruction does. -/
  | refused (r : Refusal)
  deriving DecidableEq, Repr

/-- What `step` or `execute` hands back: the outcome, the state after, and the events delivered meanwhile, oldest first. -/
structure RunReport where
  outcome : RunOutcome
  state : State
  events : List DebugEvent
  deriving DecidableEq, Repr

/-- The outcome a completed step's state reports. -/
def StepOutcome.report : StepOutcome → RunOutcome
  | .continuing => .continuing
  | .halted => .halted

/-- `step()` (R284): the outcome; after an error the state is as it was (R255), and no event was emitted (R261). -/
def State.stepOnce (s : State) : RunReport :=
  match step s with
  | .next t => { outcome := t.lastOutcome.report, state := t, events := t.events }
  | .fault f => { outcome := .error f, state := s, events := [] }
  | .refused r => { outcome := .refused r, state := s, events := [] }

/-- The loop of `execute()` with at most `n` steps left (R285): a step's outcome is examined before the count (R257), and StepCapExceeded
leaves the state after the last step (R253). -/
def State.executeLoop : Nat → State → List DebugEvent → RunReport
  | 0, s, seen => { outcome := .error .stepCapExceeded, state := s, events := seen }
  | n + 1, s, seen =>
    match s.stepOnce.outcome with
    | .continuing => State.executeLoop n s.stepOnce.state (seen ++ s.stepOnce.events)
    | .halted => { s.stepOnce with events := seen ++ s.stepOnce.events }
    | .error _ => { s.stepOnce with events := seen ++ s.stepOnce.events }
    | .refused _ => { s.stepOnce with events := seen ++ s.stepOnce.events }

/-- `execute()` (R285): the count starts at 0 on each call (D27); `STEP_CAP` is at least 1 (R6). -/
def State.execute (s : State) : RunReport := State.executeLoop s.params.stepCap s []

/-- `memory_hexdump`'s data (R287). -/
inductive HexdumpResult where
  | bytes (l : List Byte)
  | rangeError
  deriving DecidableEq, Repr

/-- A bound "in the 16-bit range" (R287, D22). -/
def in16 (b : Int) : Bool := decide (0 ≤ b) && decide (b ≤ 0xFFFF)

/-- The bytes of `[lo, hi)`, or RangeError if `hi <= lo` or a bound is out of the 16-bit range (R287). -/
def State.memoryHexdump (s : State) (lo hi : Int) : HexdumpResult :=
  if in16 lo && in16 hi && decide (lo < hi) then
    .bytes ((List.range (hi - lo).toNat).map fun k => s.memRead (BitVec.ofNat 16 (lo.toNat + k)))
  else .rangeError

/-- The three debug channels (R261 to R264). -/
inductive Channel where
  | cpu
  | memory
  | registers
  deriving DecidableEq, Repr

/-- `set_*_debug_callback(fn)`: the last one set is the channel's only observer (R264). -/
def State.setObserver (s : State) (c : Channel) (o : Option Nat) : State :=
  match c with
  | .cpu => { s with observers := { s.observers with cpu := o } }
  | .memory => { s with observers := { s.observers with memory := o } }
  | .registers => { s with observers := { s.observers with registers := o } }

/-- The operations of R288. -/
inductive HostOp where
  | reset
  | assemble (text : String)
  | load (image : List Byte)
  | step
  | execute
  | cpuStatus
  | memoryHexdump (lo hi : Int)
  | setObserver (c : Channel) (o : Option Nat)
  deriving DecidableEq, Repr

/-- What the host gets back (R288). -/
inductive HostReply where
  | done
  | imageTooLarge
  | assembled (r : AsmResult)
  | ran (outcome : RunOutcome) (events : List DebugEvent)
  | status (r : RegSnapshot)
  | dump (r : HexdumpResult)
  deriving DecidableEq, Repr

/-- One host operation: the reply and the state after (R288). -/
def hostOp : HostOp → State → HostReply × State
  | .reset, s => (.done, s.doReset)
  | .assemble text, s => (.assembled (assemble s.params.baseAddr text), s)
  | .load image, s =>
    match s.load image with
    | some t => (.done, t)
    | none => (.imageTooLarge, s)
  | .step, s => (.ran s.stepOnce.outcome s.stepOnce.events, s.stepOnce.state)
  | .execute, s => (.ran s.execute.outcome s.execute.events, s.execute.state)
  | .cpuStatus, s => (.status s.snapshot, s)
  | .memoryHexdump lo hi, s => (.dump (s.memoryHexdump lo hi), s)
  | .setObserver c o, s => (.done, s.setObserver c o)

/-- A call of the host: from between steps, or from inside an observer, to which the spec gives no meaning: refused (R265, U6). -/
def hostCall (op : HostOp) (fromObserver : Bool) (s : State) : Host.Outcome (HostReply × State) Fault Refusal :=
  if fromObserver then .refused .observerReentry else .next (hostOp op s)

end Sys2Proof.Machine
end

