-- ==== Sys2Proof/Safety.lean ====
section
/-! DEFINITION. What counts as a well-formed state and as a safe run, in the terms claims use. -/

namespace Sys2Proof.Machine

/-- The states a run can be in: memory in canonical form, bit 5 of P set (R33), B clear (R32: 0 at reset, and no instruction writes it),
and `STEP_CAP` at least 1 (R6). -/
def State.inv (s : State) : Bool :=
  s.mem.wf && s.p.getLsbD 5 && !getFlag s.p .b && s.params.wf

/-- The step from this state ends in no error (R250). -/
def State.ErrorFree (s : State) : Prop := ∀ f, step s ≠ .fault f

/-- `k` steps, each Continuing, lead from `s` to `t`. -/
def Continues : Nat → State → State → Prop
  | 0, s, t => s = t
  | k + 1, s, t => ∃ u, step s = .next u ∧ u.lastOutcome = .continuing ∧ Continues k u t

/-- A safe run: `execute` returns Halted (R290). -/
def State.SafeRun (s : State) : Prop := s.execute.outcome = .halted

end Sys2Proof.Machine
end

