-- ==== Sys2Proof/Certificates/Slice0/Obligations.lean ====
section
/-! DEFINITION. The statements for the provers, from the spec's numbered rules. Nothing is proved here.

The semantics of most instructions is the spec's rule and, as the spec's own marks say, "from general knowledge, not in source"
(`93_implementation_defined.md` G1 to G15). A statement that rests on a decision `D<n>` or a "derived" mark of the spec says so and has
basis 'derived'. Each statement about an instruction gives its whole next state: what is not named in it is unchanged. -/

namespace Sys2Proof.Spec

open Sys2Proof.Machine

/-- P goes from `p` to `q`: each flag named by `w` gets its value, every other flag and bit 5 is as before. -/
def FlagsBecome (p q : Byte) (w : Flag → Option Bool) : Prop :=
  (∀ f, getFlag q f = (w f).getD (getFlag p f)) ∧ q.getLsbD 5 = p.getLsbD 5

/-- `SetZN(v)` (R27). -/
def setsZN (v : Byte) : Flag → Option Bool
  | .z => some (decide (v = 0#8))
  | .n => some (v.getLsbD 7)
  | _ => none

/-- `SetZN(v)` and C. -/
def setsZNC (v : Byte) (c : Bool) : Flag → Option Bool
  | .c => some c
  | f => setsZN v f

/-- `SetZN(v)`, C and V. -/
def setsZNCV (v : Byte) (c o : Bool) : Flag → Option Bool
  | .v => some o
  | f => setsZNC v c f

/-- One flag. -/
def setsOne (f : Flag) (on : Bool) : Flag → Option Bool := fun g => if g = f then some on else none

/-- `PLoad(v)` (R34): N, V, D, I, Z, C from v, B as before, bit 5 set. -/
def LoadedFrom (p q v : Byte) : Prop :=
  (∀ f, f ≠ .b → getFlag q f = v.getLsbD f.bit) ∧ getFlag q .b = getFlag p .b ∧ q.getLsbD 5 = true

/-- The Memory event of a write, if a memory observer is registered (R51, R262). -/
def writeEvent (s : State) (ea : Word) (v : Byte) : List DebugEvent :=
  if s.observers.memory = none then [] else [.memory ea (s.memRead ea) v]

/-- From `s` to `t` exactly the byte at `ea` is stored to, and its event emitted; nothing but memory and events changes from `s'`,
which is `s` with what else the instruction writes. -/
def StoresByte (s s' t : State) (ea : Word) (v : Byte) : Prop :=
  t.memRead ea = v ∧ (∀ b, b ≠ ea → t.memRead b = s.memRead b) ∧
    t = { s' with mem := t.mem, events := s.events ++ writeEvent s ea v }

/-- A mnemonic has exactly these modes, with these opcode bytes (the "Operands" and "Encoding" lines of its rule). -/
def Forms (m : Mnemonic) (l : List (Mode × Byte)) : Prop :=
  (∀ i : Instr, i.mnemonic = m → ∃ b ops, (i.mode, b) ∈ l ∧ encode i = b :: ops) ∧
    ∀ e ∈ l, decodeOpcode e.2 = some { mnemonic := m, mode := e.1 }

/-- The instruction leaves the state as it is but for the flags named. -/
def OnlyFlags (i : Instr) (s : State) (w : Flag → Option Bool) : Prop :=
  ∃ q, FlagsBecome s.p q w ∧ exec i s = .next { s with p := q }

/-- The 105 bytes of R88. -/
def undefinedOpcodes : List Nat :=
  [0x02, 0x03, 0x04, 0x07, 0x0B, 0x0C, 0x0F, 0x12, 0x13, 0x14, 0x17, 0x1A, 0x1B, 0x1C, 0x1F] ++
  [0x22, 0x23, 0x27, 0x2B, 0x2F, 0x32, 0x33, 0x34, 0x37, 0x3A, 0x3B, 0x3C, 0x3F, 0x42, 0x43] ++
  [0x44, 0x47, 0x4B, 0x4F, 0x52, 0x53, 0x54, 0x57, 0x5A, 0x5B, 0x5C, 0x5F, 0x62, 0x63, 0x64] ++
  [0x67, 0x6B, 0x6F, 0x72, 0x73, 0x74, 0x77, 0x7A, 0x7B, 0x7C, 0x7F, 0x80, 0x82, 0x83, 0x87] ++
  [0x89, 0x8B, 0x8F, 0x92, 0x93, 0x97, 0x9B, 0x9C, 0x9E, 0x9F, 0xA3, 0xA7, 0xAB, 0xAF, 0xB2] ++
  [0xB3, 0xB7, 0xBB, 0xBF, 0xC2, 0xC3, 0xC7, 0xCB, 0xCF, 0xD2, 0xD3, 0xD4, 0xD7, 0xDA, 0xDB] ++
  [0xDC, 0xDF, 0xE2, 0xE3, 0xE7, 0xEB, 0xEF, 0xF2, 0xF3, 0xF4, 0xF7, 0xFA, 0xFB, 0xFC, 0xFF]

/-- The mnemonics that write each flag, from the table of R35. -/
def flagWriters : Flag → List Mnemonic
  | .n => znWriters ++ [.adc, .sbc, .cmp, .cpx, .cpy, .asl, .rol, .ror, .lsr, .bit, .plp, .rti]
  | .v => [.adc, .sbc, .bit, .plp, .rti, .clv]
  | .b => []
  | .d => [.plp, .rti, .cld, .sed]
  | .i => [.plp, .rti, .cli, .sei]
  | .z => znWriters ++ [.adc, .sbc, .cmp, .cpx, .cpy, .asl, .rol, .ror, .lsr, .bit, .plp, .rti]
  | .c => [.adc, .sbc, .cmp, .cpx, .cpy, .asl, .rol, .ror, .lsr, .plp, .rti, .clc, .sec]
where
  /-- The first row of R35. -/
  znWriters : List Mnemonic :=
    [.lda, .ldx, .ldy, .tax, .tay, .txa, .tya, .tsx, .pla] ++ [.and, .ora, .eor, .inc, .dec, .inx, .iny, .dex, .dey]

/-- The flag and the value of the entries "0" and "1" of R35. -/
def forcedFlag : Mnemonic → Option (Flag × Bool)
  | .lsr => some (.n, false)
  | .clc => some (.c, false)
  | .sec => some (.c, true)
  | .cli => some (.i, false)
  | .sei => some (.i, true)
  | .cld => some (.d, false)
  | .sed => some (.d, true)
  | .clv => some (.v, false)
  | _ => none

/-- The mnemonics that store to memory when their operand is not the accumulator. -/
def storingMnemonics : List Mnemonic :=
  [.sta, .stx, .sty, .pha, .php, .jsr, .inc, .dec, .asl, .lsr, .rol, .ror]

/-- The flag a branch tests and the value that takes it (R215 to R222). -/
def branchTest : Mnemonic → Option (Flag × Bool)
  | .bcc => some (.c, false)
  | .bcs => some (.c, true)
  | .beq => some (.z, true)
  | .bne => some (.z, false)
  | .bmi => some (.n, true)
  | .bpl => some (.n, false)
  | .bvc => some (.v, false)
  | .bvs => some (.v, true)
  | _ => none

/-- Result and carry of ASL, LSR, ROL, ROR in numbers (R196 to R199). -/
def ShiftGives (m : Mnemonic) (c : Bool) (v r : Byte) (out : Bool) : Prop :=
  match m with
  | .asl => r.toNat = (2 * v.toNat) % 256 ∧ out = v.getLsbD 7
  | .lsr => r.toNat = v.toNat / 2 ∧ out = v.getLsbD 0
  | .rol => r.toNat = (2 * v.toNat + c.toNat) % 256 ∧ out = v.getLsbD 7
  | .ror => r.toNat = v.toNat / 2 + 128 * c.toNat ∧ out = v.getLsbD 0
  | _ => False

end Sys2Proof.Spec

open Sys2Proof Sys2Proof.Machine Sys2Proof.Spec

/-! ### Encoding -/

/-- Words written out from R86 and R83, one or more of each family, decode to the instruction they stand for. -/
def Obligations.SpecWordsDecodeToTheirInstruction : Prop :=
  decode [0xA9#8, 0x02#8] = .ok (.ldaImm 0x02#8) [] ∧
  decode [0x91#8, 0x40#8] = .ok (.staIndy 0x40#8) [] ∧
  decode [0x96#8, 0x10#8] = .ok (.stxZpy 0x10#8) [] ∧
  decode [0xBA#8] = .ok .tsx [] ∧
  decode [0x48#8] = .ok .pha [] ∧
  decode [0x7D#8, 0x34#8, 0x12#8] = .ok (.adcAbsx 0x1234#16) [] ∧
  decode [0xE1#8, 0x20#8] = .ok (.sbcIndx 0x20#8) [] ∧
  decode [0x6A#8] = .ok .rorAcc [] ∧
  decode [0xDE#8, 0x00#8, 0x02#8] = .ok (.decAbsx 0x0200#16) [] ∧
  decode [0x6C#8, 0xFF#8, 0x10#8] = .ok (.jmpInd 0x10FF#16) [] ∧
  decode [0xD0#8, 0x05#8] = .ok (.bne 0x05#8) [] ∧
  decode [0x00#8] = .ok .brk [] ∧
  decode [0xF8#8] = .ok .sed []

/-- Decoding the encoding of an instruction, whatever follows it, gives it back with every operand. -/
def Obligations.DecodeOfEncodeIsTheInstruction : Prop :=
  ∀ (i : Instr) (rest : List Byte), decode (encode i ++ rest) = .ok i rest

/-- The other direction: bytes that decode are the encoding of what they decode to, followed by the rest. -/
def Obligations.DecodedBytesAreTheEncoding : Prop :=
  ∀ (bs rest : List Byte) (i : Instr), decode bs = .ok i rest → bs = encode i ++ rest

/-- R88: exactly the 105 listed bytes are no instruction, and fetching one ends the step with the InvalidOpcode outcome and changes no
state. -/
def Obligations.UndefinedOpcodesEndTheStepUnchanged : Prop :=
  undefinedOpcodes.length = 105 ∧
  (∀ b : Byte, decodeOpcode b = none ↔ b.toNat ∈ undefinedOpcodes) ∧
  ∀ s : State, (s.memRead s.pc).toNat ∈ undefinedOpcodes →
    (∃ pc b, s.stepOnce.outcome = .error (.invalidOpcode pc b)) ∧ s.stepOnce.state = s

/-! ### Memory and stack -/

/-- R51, R50: a `MemWrite` at any address sets that byte, leaves every other, and emits its event if a memory observer is registered; a
`MemRead` gives what stands there. -/
def Obligations.MemWriteThenMemRead : Prop :=
  ∀ (s : State) (addr b : Word) (v : Byte),
    (s.memWrite addr v).memRead b = (if b = addr then v else s.memRead b) ∧
    s.memWrite addr v =
      { s with mem := (s.memWrite addr v).mem, events := s.events ++ writeEvent s addr v }

/-- Two memories in canonical form that read the same everywhere are the same data (derived: log 6, R36). -/
def Obligations.CanonicalMemoriesReadingAlikeAreEqual : Prop :=
  ∀ m n : Memory, m.wf = true → n.wf = true → (∀ a : Word, m.read a.toNat = n.read a.toNat) → m = n

/-- R56, R57: a push stores at `0x0100 + SP` and lowers SP by one modulo 256; a pull raises SP and reads there. -/
def Obligations.PushStoresAndPullReads : Prop :=
  ∀ (s : State) (v : Byte),
    (∃ ea : Word, ea.toNat = 0x0100 + s.sp.toNat ∧ StoresByte s { s with sp := s.sp - 1#8 } (s.push v) ea v) ∧
    (∃ ea : Word, ea.toNat = 0x0100 + (s.sp.toNat + 1) % 256 ∧
      s.pull = (s.memRead ea, { s with sp := s.sp + 1#8 }))

/-- What is pushed is pulled, and SP is back where it was, for every SP (derived from R56 to R58; wrapping is D18). -/
def Obligations.PullAfterPushGivesTheByteBack : Prop :=
  ∀ (s : State) (v w : Byte),
    (s.push v).pull.1 = v ∧ (s.push v).pull.2.sp = s.sp ∧
    ((s.push v).push w).pull.2.pull.1 = v ∧ ((s.push v).push w).pull.2.pull.2.sp = s.sp

/-! ### Addressing modes -/

/-- R95, R98, R99, R100 in numbers: zero page, absolute, absolute,X and absolute,Y. -/
def Obligations.PlainModesInNumbers : Prop :=
  ∀ (s : State) (op1 : Byte) (w : Word),
    (∃ e, effectiveAddress (.zp op1) s = some e ∧ e.toNat = op1.toNat) ∧
    (∃ e, effectiveAddress (.abs w) s = some e ∧ e.toNat = w.toNat) ∧
    (∃ e, effectiveAddress (.absx w) s = some e ∧ e.toNat = (w.toNat + s.x.toNat) % 65536) ∧
    (∃ e, effectiveAddress (.absy w) s = some e ∧ e.toNat = (w.toNat + s.y.toNat) % 65536)

/-- R96, R97, R102, R103 in numbers: zero-page indexing and zero-page pointers wrap inside the zero page, the addition of Y to a pointer
modulo 2^16 (the spec's own decision, D12). -/
def Obligations.ZeroPageIndexedModesInNumbers : Prop :=
  ∀ (s : State) (op1 : Byte),
    (∃ e, effectiveAddress (.zpx op1) s = some e ∧ e.toNat = (op1.toNat + s.x.toNat) % 256) ∧
    (∃ e, effectiveAddress (.zpy op1) s = some e ∧ e.toNat = (op1.toNat + s.y.toNat) % 256) ∧
    (∃ e lo hi, effectiveAddress (.indx op1) s = some e ∧
      lo = s.memRead (BitVec.ofNat 16 ((op1.toNat + s.x.toNat) % 256)) ∧
      hi = s.memRead (BitVec.ofNat 16 ((op1.toNat + s.x.toNat + 1) % 256)) ∧
      e.toNat = hi.toNat * 256 + lo.toNat) ∧
    (∃ e lo hi, effectiveAddress (.indy op1) s = some e ∧
      lo = s.memRead (BitVec.ofNat 16 op1.toNat) ∧
      hi = s.memRead (BitVec.ofNat 16 ((op1.toNat + 1) % 256)) ∧
      e.toNat = (hi.toNat * 256 + lo.toNat + s.y.toNat) % 65536)

/-- R101 for both values of JMP_IND_PAGE_WRAP: where the two bytes of the target are read, that the settings differ only when the
pointer's low byte is 0xFF, and that JMP alone has the mode. -/
def Obligations.IndirectPointerForBothSettings : Prop :=
  (∀ i : Instr, i.mode = .ind ↔ ∃ w, i = .jmpInd w) ∧
  ∀ (s : State) (w : Word),
    (∃ e lo hi, effectiveAddress (.ind w) s = some e ∧ lo = s.memRead w ∧
      hi = s.memRead (BitVec.ofNat 16
        (if s.params.jmpIndPageWrap then w.toNat / 256 * 256 + (w.toNat + 1) % 256 else (w.toNat + 1) % 65536)) ∧
      e.toNat = hi.toNat * 256 + lo.toNat) ∧
    (w.toNat % 256 ≠ 255 → indHiAddr true w = indHiAddr false w) ∧
    (w.toNat % 256 = 255 → indHiAddr true w ≠ indHiAddr false w)

/-- R104: the eight branches have the relative mode; the target is PC plus the signed offset, modulo 2^16. -/
def Obligations.RelativeTargetInNumbers : Prop :=
  (∀ i : Instr, i.mode = .rel ↔ (branchTest i.mnemonic).isSome = true) ∧
  ∀ (s : State) (op1 : Byte), ((relTarget op1 s).toNat : Int) = ((s.pc.toNat : Int) + op1.toInt) % 65536

/-! ### Status register -/

/-- R34: P read as a byte, and P loaded from a byte (bit positions from general knowledge, G2; B unchanged is D8). -/
def Obligations.StatusByteLayout : Prop :=
  ∀ (s : State) (v : Byte),
    s.pByte.toNat = 128 * (s.flag .n).toNat + 64 * (s.flag .v).toNat + 32 + 16 * (s.flag .b).toNat +
      8 * (s.flag .d).toNat + 4 * (s.flag .i).toNat + 2 * (s.flag .z).toNat + (s.flag .c).toNat ∧
    ∃ q, s.pLoad v = { s with p := q } ∧ LoadedFrom s.p q v

/-- R33: bit 5 reads as 1 in every state, and no step clears it. -/
def Obligations.ReservedBitReadsAsOne : Prop :=
  (∀ q, (State.resetWith q).p.getLsbD 5 = true) ∧ (∀ s : State, s.pByte.getLsbD 5 = true) ∧
  ∀ s t : State, step s = .next t → s.p.getLsbD 5 = true → t.p.getLsbD 5 = true

/-! ### Loads, stores, transfers, stack -/

/-- R130, R131, R132 (constructors ldaImm ldaZp ldaZpx ldaAbs ldaAbsx ldaAbsy ldaIndx ldaIndy, ldxImm ldxZp ldxZpy ldxAbs ldxAbsy,
ldyImm ldyZp ldyZpx ldyAbs ldyAbsx): the register takes M, Z and N follow it, nothing else changes. -/
def Obligations.LoadsWriteTheirRegister : Prop :=
  Forms .lda [(.imm, 0xA9#8), (.zp, 0xA5#8), (.zpx, 0xB5#8), (.abs, 0xAD#8),
    (.absx, 0xBD#8), (.absy, 0xB9#8), (.indx, 0xA1#8), (.indy, 0xB1#8)] ∧
  Forms .ldx [(.imm, 0xA2#8), (.zp, 0xA6#8), (.zpy, 0xB6#8), (.abs, 0xAE#8), (.absy, 0xBE#8)] ∧
  Forms .ldy [(.imm, 0xA0#8), (.zp, 0xA4#8), (.zpx, 0xB4#8), (.abs, 0xAC#8), (.absx, 0xBC#8)] ∧
  ∀ (i : Instr) (s : State),
    (i.mnemonic = .lda → ∃ m q, operandValue i.operand s = some m ∧ FlagsBecome s.p q (setsZN m) ∧
      exec i s = .next { s with a := m, p := q }) ∧
    (i.mnemonic = .ldx → ∃ m q, operandValue i.operand s = some m ∧ FlagsBecome s.p q (setsZN m) ∧
      exec i s = .next { s with x := m, p := q }) ∧
    (i.mnemonic = .ldy → ∃ m q, operandValue i.operand s = some m ∧ FlagsBecome s.p q (setsZN m) ∧
      exec i s = .next { s with y := m, p := q })

/-- R133, R134, R135 (constructors staZp staZpx staAbs staAbsx staAbsy staIndx staIndy, stxZp stxZpy stxAbs, styZp styZpx styAbs): the
register is stored at EA; no flag, no register, no other byte changes. -/
def Obligations.StoresWriteTheByteAtEA : Prop :=
  Forms .sta [(.zp, 0x85#8), (.zpx, 0x95#8), (.abs, 0x8D#8), (.absx, 0x9D#8),
    (.absy, 0x99#8), (.indx, 0x81#8), (.indy, 0x91#8)] ∧
  Forms .stx [(.zp, 0x86#8), (.zpy, 0x96#8), (.abs, 0x8E#8)] ∧
  Forms .sty [(.zp, 0x84#8), (.zpx, 0x94#8), (.abs, 0x8C#8)] ∧
  ∀ (i : Instr) (s : State),
    (i.mnemonic = .sta → ∃ ea t, effectiveAddress i.operand s = some ea ∧ exec i s = .next t ∧ StoresByte s s t ea s.a) ∧
    (i.mnemonic = .stx → ∃ ea t, effectiveAddress i.operand s = some ea ∧ exec i s = .next t ∧ StoresByte s s t ea s.x) ∧
    (i.mnemonic = .sty → ∃ ea t, effectiveAddress i.operand s = some ea ∧ exec i s = .next t ∧ StoresByte s s t ea s.y)

/-- R150 to R155 (constructors tax tay txa tya tsx txs): a register is copied; Z and N follow it, but for TXS, which writes no flag. -/
def Obligations.TransfersCopyARegister : Prop :=
  Forms .tax [(.imp, 0xAA#8)] ∧ Forms .tay [(.imp, 0xA8#8)] ∧ Forms .txa [(.imp, 0x8A#8)] ∧
  Forms .tya [(.imp, 0x98#8)] ∧ Forms .tsx [(.imp, 0xBA#8)] ∧ Forms .txs [(.imp, 0x9A#8)] ∧
  ∀ s : State,
    (∃ q, FlagsBecome s.p q (setsZN s.a) ∧ exec .tax s = .next { s with x := s.a, p := q }) ∧
    (∃ q, FlagsBecome s.p q (setsZN s.a) ∧ exec .tay s = .next { s with y := s.a, p := q }) ∧
    (∃ q, FlagsBecome s.p q (setsZN s.x) ∧ exec .txa s = .next { s with a := s.x, p := q }) ∧
    (∃ q, FlagsBecome s.p q (setsZN s.y) ∧ exec .tya s = .next { s with a := s.y, p := q }) ∧
    (∃ q, FlagsBecome s.p q (setsZN s.sp) ∧ exec .tsx s = .next { s with x := s.sp, p := q }) ∧
    exec .txs s = .next { s with sp := s.x }

/-- R156, R158 (constructors pha pla): A is pushed; a byte is pulled into A and Z and N follow it. -/
def Obligations.PhaPushesAndPlaPulls : Prop :=
  Forms .pha [(.imp, 0x48#8)] ∧ Forms .pla [(.imp, 0x68#8)] ∧
  ∀ s : State,
    (∃ t, exec .pha s = .next t ∧ StoresByte s { s with sp := s.sp - 1#8 } t (stackAddr s.sp) s.a) ∧
    (∃ m q, m = s.memRead (stackAddr (s.sp + 1#8)) ∧ FlagsBecome s.p q (setsZN m) ∧
      exec .pla s = .next { s with a := m, sp := s.sp + 1#8, p := q })

/-- R157, R159 (constructors php plp): the pushed byte has every flag but B as it is and bits 4 and 5 set; the pulled byte is loaded into
P, B unchanged and bit 5 set (the spec's own decision, D8). -/
def Obligations.PhpPushesAndPlpPullsStatus : Prop :=
  Forms .php [(.imp, 0x08#8)] ∧ Forms .plp [(.imp, 0x28#8)] ∧
  ∀ s : State,
    (∃ t v, exec .php s = .next t ∧ StoresByte s { s with sp := s.sp - 1#8 } t (stackAddr s.sp) v ∧
      (∀ f, f ≠ .b → getFlag v f = s.flag f) ∧ v.getLsbD 4 = true ∧ v.getLsbD 5 = true) ∧
    (∃ q, LoadedFrom s.p q (s.memRead (stackAddr (s.sp + 1#8))) ∧
      exec .plp s = .next { s with sp := s.sp + 1#8, p := q })

/-- PHP, then PLP, gives every flag and SP back (derived from R157, R159, R34). -/
def Obligations.PlpAfterPhpRestoresEveryFlag : Prop :=
  ∀ s : State, ∃ t u, exec .php s = .next t ∧ exec .plp t = .next u ∧ u.sp = s.sp ∧ ∀ f, u.flag f = s.flag f

/-! ### Arithmetic and logic -/

/-- R171 (constructors adcImm adcZp adcZpx adcAbs adcAbsx adcAbsy adcIndx adcIndy). -/
def Obligations.AdcAddsWithCarry : Prop :=
  Forms .adc [(.imm, 0x69#8), (.zp, 0x65#8), (.zpx, 0x75#8), (.abs, 0x6D#8),
    (.absx, 0x7D#8), (.absy, 0x79#8), (.indx, 0x61#8), (.indy, 0x71#8)] ∧
  ∀ (i : Instr) (s : State), i.mnemonic = .adc →
    ∃ m r q, operandValue i.operand s = some m ∧
      r.toNat = (s.a.toNat + m.toNat + (s.flag .c).toNat) % 256 ∧
      FlagsBecome s.p q (setsZNCV r (decide (s.a.toNat + m.toNat + (s.flag .c).toNat > 255))
        (decide ((s.a ^^^ r) &&& (m ^^^ r) &&& 0x80#8 ≠ 0#8))) ∧
      exec i s = .next { s with a := r, p := q }

/-- R172 (constructors sbcImm sbcZp sbcZpx sbcAbs sbcAbsx sbcAbsy sbcIndx sbcIndy): r = (A - M - (1 - C)) mod 256, C says that the exact
difference is not negative, V as the formula on M ^ 0xFF says. -/
def Obligations.SbcSubtractsWithBorrow : Prop :=
  Forms .sbc [(.imm, 0xE9#8), (.zp, 0xE5#8), (.zpx, 0xF5#8), (.abs, 0xED#8),
    (.absx, 0xFD#8), (.absy, 0xF9#8), (.indx, 0xE1#8), (.indy, 0xF1#8)] ∧
  ∀ (i : Instr) (s : State), i.mnemonic = .sbc →
    ∃ m r q, operandValue i.operand s = some m ∧
      (r.toNat : Int) = ((s.a.toNat : Int) - m.toNat - (1 - (s.flag .c).toNat)) % 256 ∧
      FlagsBecome s.p q (setsZNCV r (decide ((s.a.toNat : Int) - m.toNat - (1 - (s.flag .c).toNat) ≥ 0))
        (decide ((s.a ^^^ r) &&& ((m ^^^ 0xFF#8) ^^^ r) &&& 0x80#8 ≠ 0#8))) ∧
      exec i s = .next { s with a := r, p := q }

/-- V after ADC and SBC says that the exact signed result lies outside -128 to 127 (derived: "signed overflow", G7, R170 to R172). -/
def Obligations.OverflowFlagIsSignedOverflow : Prop :=
  ∀ (i : Instr) (s t : State) (m : Byte), operandValue i.operand s = some m → exec i s = .next t →
    (i.mnemonic = .adc →
      (t.flag .v = true ↔ ¬ (-128 ≤ s.a.toInt + m.toInt + (s.flag .c).toNat ∧
        s.a.toInt + m.toInt + (s.flag .c).toNat ≤ 127))) ∧
    (i.mnemonic = .sbc →
      (t.flag .v = true ↔ ¬ (-128 ≤ s.a.toInt - m.toInt - (1 - (s.flag .c).toNat) ∧
        s.a.toInt - m.toInt - (1 - (s.flag .c).toNat) ≤ 127)))

/-- ADC and SBC are binary whatever D holds, and leave D (R31, R170; the spec's own decision D4). -/
def Obligations.DecimalFlagDoesNotAffectAddAndSubtract : Prop :=
  ∀ (i : Instr) (s : State) (on : Bool), i.mnemonic = .adc ∨ i.mnemonic = .sbc →
    ∃ t, exec i s = .next t ∧ exec i (s.setFlag .d on) = .next (t.setFlag .d on)

/-- R173, R174, R175 (constructors andImm to andIndy, oraImm to oraIndy, eorImm to eorIndy, eight each). -/
def Obligations.LogicOperationsOnA : Prop :=
  Forms .and [(.imm, 0x29#8), (.zp, 0x25#8), (.zpx, 0x35#8), (.abs, 0x2D#8),
    (.absx, 0x3D#8), (.absy, 0x39#8), (.indx, 0x21#8), (.indy, 0x31#8)] ∧
  Forms .ora [(.imm, 0x09#8), (.zp, 0x05#8), (.zpx, 0x15#8), (.abs, 0x0D#8),
    (.absx, 0x1D#8), (.absy, 0x19#8), (.indx, 0x01#8), (.indy, 0x11#8)] ∧
  Forms .eor [(.imm, 0x49#8), (.zp, 0x45#8), (.zpx, 0x55#8), (.abs, 0x4D#8),
    (.absx, 0x5D#8), (.absy, 0x59#8), (.indx, 0x41#8), (.indy, 0x51#8)] ∧
  ∀ (i : Instr) (s : State),
    (i.mnemonic = .and → ∃ m q, operandValue i.operand s = some m ∧ FlagsBecome s.p q (setsZN (s.a &&& m)) ∧
      exec i s = .next { s with a := s.a &&& m, p := q }) ∧
    (i.mnemonic = .ora → ∃ m q, operandValue i.operand s = some m ∧ FlagsBecome s.p q (setsZN (s.a ||| m)) ∧
      exec i s = .next { s with a := s.a ||| m, p := q }) ∧
    (i.mnemonic = .eor → ∃ m q, operandValue i.operand s = some m ∧ FlagsBecome s.p q (setsZN (s.a ^^^ m)) ∧
      exec i s = .next { s with a := s.a ^^^ m, p := q })

/-- R176 (constructors bitZp bitAbs): Z from A & M, N and V from bits 7 and 6 of M; only flags change. -/
def Obligations.BitTestsAAgainstM : Prop :=
  Forms .bit [(.zp, 0x24#8), (.abs, 0x2C#8)] ∧
  ∀ (i : Instr) (s : State), i.mnemonic = .bit →
    ∃ m, operandValue i.operand s = some m ∧
      OnlyFlags i s (fun
        | .z => some (decide (s.a &&& m = 0#8))
        | .n => some (m.getLsbD 7)
        | .v => some (m.getLsbD 6)
        | _ => none)

/-- R177, R178, R179 (constructors cmpImm to cmpIndy, cpxImm cpxZp cpxAbs, cpyImm cpyZp cpyAbs): C unsigned greater-or-equal, Z equal, N
bit 7 of the difference; only flags change. -/
def Obligations.ComparesSetZNCOnly : Prop :=
  Forms .cmp [(.imm, 0xC9#8), (.zp, 0xC5#8), (.zpx, 0xD5#8), (.abs, 0xCD#8),
    (.absx, 0xDD#8), (.absy, 0xD9#8), (.indx, 0xC1#8), (.indy, 0xD1#8)] ∧
  Forms .cpx [(.imm, 0xE0#8), (.zp, 0xE4#8), (.abs, 0xEC#8)] ∧
  Forms .cpy [(.imm, 0xC0#8), (.zp, 0xC4#8), (.abs, 0xCC#8)] ∧
  ∀ (i : Instr) (s : State) (reg : Byte),
    (i.mnemonic = .cmp ∧ reg = s.a) ∨ (i.mnemonic = .cpx ∧ reg = s.x) ∨ (i.mnemonic = .cpy ∧ reg = s.y) →
    ∃ m r : Byte, operandValue i.operand s = some m ∧
      (r.toNat : Int) = ((reg.toNat : Int) - m.toNat) % 256 ∧
      OnlyFlags i s (fun
        | .c => some (decide (reg.toNat ≥ m.toNat))
        | .z => some (decide (reg = m))
        | .n => some (r.getLsbD 7)
        | _ => none)

/-! ### Increment, decrement, shifts -/

/-- R190, R191 (constructors incZp incZpx incAbs incAbsx, decZp decZpx decAbs decAbsx): the byte at EA is read and written once. -/
def Obligations.IncAndDecOfMemory : Prop :=
  Forms .inc [(.zp, 0xE6#8), (.zpx, 0xF6#8), (.abs, 0xEE#8), (.absx, 0xFE#8)] ∧
  Forms .dec [(.zp, 0xC6#8), (.zpx, 0xD6#8), (.abs, 0xCE#8), (.absx, 0xDE#8)] ∧
  ∀ (i : Instr) (s : State),
    (i.mnemonic = .inc → ∃ ea r q t, effectiveAddress i.operand s = some ea ∧
      r.toNat = ((s.memRead ea).toNat + 1) % 256 ∧ FlagsBecome s.p q (setsZN r) ∧
      exec i s = .next t ∧ StoresByte s { s with p := q } t ea r) ∧
    (i.mnemonic = .dec → ∃ ea r q t, effectiveAddress i.operand s = some ea ∧
      r.toNat = ((s.memRead ea).toNat + 255) % 256 ∧ FlagsBecome s.p q (setsZN r) ∧
      exec i s = .next t ∧ StoresByte s { s with p := q } t ea r)

/-- R192 to R195 (constructors inx iny dex dey). -/
def Obligations.IncAndDecOfIndexRegisters : Prop :=
  Forms .inx [(.imp, 0xE8#8)] ∧ Forms .iny [(.imp, 0xC8#8)] ∧ Forms .dex [(.imp, 0xCA#8)] ∧ Forms .dey [(.imp, 0x88#8)] ∧
  ∀ s : State,
    (∃ r q, r.toNat = (s.x.toNat + 1) % 256 ∧ FlagsBecome s.p q (setsZN r) ∧ exec .inx s = .next { s with x := r, p := q }) ∧
    (∃ r q, r.toNat = (s.y.toNat + 1) % 256 ∧ FlagsBecome s.p q (setsZN r) ∧ exec .iny s = .next { s with y := r, p := q }) ∧
    (∃ r q, r.toNat = (s.x.toNat + 255) % 256 ∧ FlagsBecome s.p q (setsZN r) ∧ exec .dex s = .next { s with x := r, p := q }) ∧
    (∃ r q, r.toNat = (s.y.toNat + 255) % 256 ∧ FlagsBecome s.p q (setsZN r) ∧ exec .dey s = .next { s with y := r, p := q })

/-- R196 to R199 (constructors aslAcc aslZp aslZpx aslAbs aslAbsx, and the same five of lsr, rol, ror): the accumulator form writes A and
no memory, a memory form the byte at EA and not A; C, Z and N follow the shift. -/
def Obligations.ShiftsAndRotates : Prop :=
  Forms .asl [(.acc, 0x0A#8), (.zp, 0x06#8), (.zpx, 0x16#8), (.abs, 0x0E#8), (.absx, 0x1E#8)] ∧
  Forms .lsr [(.acc, 0x4A#8), (.zp, 0x46#8), (.zpx, 0x56#8), (.abs, 0x4E#8), (.absx, 0x5E#8)] ∧
  Forms .rol [(.acc, 0x2A#8), (.zp, 0x26#8), (.zpx, 0x36#8), (.abs, 0x2E#8), (.absx, 0x3E#8)] ∧
  Forms .ror [(.acc, 0x6A#8), (.zp, 0x66#8), (.zpx, 0x76#8), (.abs, 0x6E#8), (.absx, 0x7E#8)] ∧
  ∀ (i : Instr) (s : State), i.mnemonic ∈ [.asl, .lsr, .rol, .ror] →
    ∃ v r c q, operandValue i.operand s = some v ∧ ShiftGives i.mnemonic (s.flag .c) v r c ∧
      FlagsBecome s.p q (setsZNC r c) ∧
      (i.mode = .acc → exec i s = .next { s with a := r, p := q }) ∧
      (i.mode ≠ .acc → ∃ ea t, effectiveAddress i.operand s = some ea ∧ exec i s = .next t ∧
        StoresByte s { s with p := q } t ea r)

/-! ### Control transfer -/

/-- R210 (constructors jmpAbs jmpInd): PC takes EA and nothing else changes. -/
def Obligations.JmpSetsPc : Prop :=
  Forms .jmp [(.abs, 0x4C#8), (.ind, 0x6C#8)] ∧
  ∀ (i : Instr) (s : State), i.mnemonic = .jmp →
    ∃ ea, effectiveAddress i.operand s = some ea ∧ exec i s = .next { s with pc := ea }

/-- R211 (constructor jsr): the high, then the low byte of PC - 1 are pushed, PC takes the operand, nothing else changes. -/
def Obligations.JsrPushesReturnAddressAndJumps : Prop :=
  Forms .jsr [(.abs, 0x20#8)] ∧
  ∀ (s : State) (w : Word), ∃ (t : State) (hi lo : Byte),
    hi.toNat * 256 + lo.toNat = (s.pc.toNat + 65535) % 65536 ∧ exec (.jsr w) s = .next t ∧
    t.memRead (stackAddr s.sp) = hi ∧ t.memRead (stackAddr (s.sp - 1#8)) = lo ∧
    (∀ b, b ≠ stackAddr s.sp → b ≠ stackAddr (s.sp - 1#8) → t.memRead b = s.memRead b) ∧
    t = { s with
      pc := w
      sp := s.sp - 2#8
      mem := t.mem
      events := s.events ++ writeEvent s (stackAddr s.sp) hi ++ writeEvent s (stackAddr (s.sp - 1#8)) lo }

/-- R212 (constructor rts): PC takes the pulled word plus 1, SP rises by 2, nothing else changes. -/
def Obligations.RtsPullsPcPlusOne : Prop :=
  Forms .rts [(.imp, 0x60#8)] ∧
  ∀ s : State, ∃ pc : Word,
    pc.toNat = ((s.memRead (stackAddr (s.sp + 2#8))).toNat * 256 + (s.memRead (stackAddr (s.sp + 1#8))).toNat + 1) % 65536 ∧
    exec .rts s = .next { s with pc := pc, sp := s.sp + 2#8 }

/-- R213 (constructor rti): P, then PC without the 1, are pulled; B unchanged and bit 5 set (the spec's own decision, D8). -/
def Obligations.RtiPullsStatusAndPc : Prop :=
  Forms .rti [(.imp, 0x40#8)] ∧
  ∀ s : State, ∃ (q : Byte) (pc : Word),
    LoadedFrom s.p q (s.memRead (stackAddr (s.sp + 1#8))) ∧
    pc.toNat = (s.memRead (stackAddr (s.sp + 3#8))).toNat * 256 + (s.memRead (stackAddr (s.sp + 2#8))).toNat ∧
    exec .rti s = .next { s with p := q, pc := pc, sp := s.sp + 3#8 }

/-- JSR, then RTS, comes back to the instruction after the JSR with SP as it was (derived from R211, R212, R58). -/
def Obligations.RtsAfterJsrReturns : Prop :=
  ∀ (s : State) (w : Word), ∃ t u, exec (.jsr w) s = .next t ∧ exec .rts t = .next u ∧ u.pc = s.pc ∧ u.sp = s.sp ∧
    u.mem = t.mem ∧ u.a = s.a ∧ u.x = s.x ∧ u.y = s.y ∧ u.p = s.p

/-- R214 to R222 (constructors bcc bcs beq bne bmi bpl bvc bvs): PC takes `PC + sext(op1)` when the flag has the value that takes the
branch, else nothing changes at all. -/
def Obligations.BranchesTestOneFlag : Prop :=
  Forms .bcc [(.rel, 0x90#8)] ∧ Forms .bcs [(.rel, 0xB0#8)] ∧ Forms .beq [(.rel, 0xF0#8)] ∧ Forms .bne [(.rel, 0xD0#8)] ∧
  Forms .bmi [(.rel, 0x30#8)] ∧ Forms .bpl [(.rel, 0x10#8)] ∧ Forms .bvc [(.rel, 0x50#8)] ∧ Forms .bvs [(.rel, 0x70#8)] ∧
  ∀ (i : Instr) (s : State) (f : Flag) (v : Bool), branchTest i.mnemonic = some (f, v) →
    ∃ op1 pc, i.operand = .rel op1 ∧ ((pc : Word).toNat : Int) = ((s.pc.toNat : Int) + op1.toInt) % 65536 ∧
      exec i s = .next (if s.flag f = v then { s with pc := pc } else s)

/-- R223, R252 (constructor brk): BRK's own effect is the outcome Halted and nothing else; the step that decodes it advances PC by one,
changes no register, flag or byte, and a later step does not depend on the outcome or the events of an earlier one (the spec's own decisions D5, D6; the outcome stands in the model's own
field `lastOutcome`, log 4). -/
def Obligations.BrkHalts : Prop :=
  Forms .brk [(.imp, 0x00#8)] ∧
  (∀ s : State, exec .brk s = .next { s with lastOutcome := .halted }) ∧
  (∀ s : State, s.memRead s.pc = 0#8 → ∃ t, step s = .next t ∧
    t = { s with pc := s.pc + 1#16, lastOutcome := .halted, events := t.events }) ∧
  ∀ (s : State) (o : StepOutcome) (ev : List DebugEvent), step { s with lastOutcome := o, events := ev } = step s

/-- R224 (constructor nop): no effect beyond the PC advance. -/
def Obligations.NopOnlyAdvancesPc : Prop :=
  Forms .nop [(.imp, 0xEA#8)] ∧ (∀ s : State, exec .nop s = .next s) ∧
  ∀ s : State, s.memRead s.pc = 0xEA#8 → ∃ t, step s = .next t ∧
    t = { s with pc := s.pc + 1#16, lastOutcome := .continuing, events := t.events }

/-- R240 to R246 (constructors clc sec cli sei cld sed clv): one flag is written, nothing else changes. -/
def Obligations.FlagInstructionsWriteOneFlag : Prop :=
  Forms .clc [(.imp, 0x18#8)] ∧ Forms .sec [(.imp, 0x38#8)] ∧ Forms .cli [(.imp, 0x58#8)] ∧ Forms .sei [(.imp, 0x78#8)] ∧
  Forms .cld [(.imp, 0xD8#8)] ∧ Forms .sed [(.imp, 0xF8#8)] ∧ Forms .clv [(.imp, 0xB8#8)] ∧
  ∀ s : State,
    OnlyFlags .clc s (setsOne .c false) ∧ OnlyFlags .sec s (setsOne .c true) ∧
    OnlyFlags .cli s (setsOne .i false) ∧ OnlyFlags .sei s (setsOne .i true) ∧
    OnlyFlags .cld s (setsOne .d false) ∧ OnlyFlags .sed s (setsOne .d true) ∧
    OnlyFlags .clv s (setsOne .v false)

/-! ### Whole-machine rules -/

/-- The table of R35 (derived by the spec from the instruction rules): a flag changes only under its writers, B under none, and the forced
entries have their value. -/
def Obligations.FlagsChangeOnlyUnderTheirWriters : Prop :=
  ∀ (i : Instr) (s t : State), exec i s = .next t →
    (∀ f, i.mnemonic ∉ flagWriters f → t.flag f = s.flag f) ∧
    (∀ f v, forcedFlag i.mnemonic = some (f, v) → t.flag f = v)

/-- A, X, Y and SP change only under the instructions R21, R22 and R23 list, and PC only under control transfers (derived by the spec from
the instruction rules). -/
def Obligations.RegistersChangeOnlyUnderTheirWriters : Prop :=
  ∀ (i : Instr) (s t : State), exec i s = .next t →
    (t.a ≠ s.a → i.mnemonic ∈ [.lda, .adc, .sbc, .and, .ora, .eor, .txa, .tya, .pla] ∨
      (i.mnemonic ∈ [.asl, .lsr, .rol, .ror] ∧ i.mode = .acc)) ∧
    (t.x ≠ s.x → i.mnemonic ∈ [.ldx, .tax, .tsx, .inx, .dex]) ∧
    (t.y ≠ s.y → i.mnemonic ∈ [.ldy, .tay, .iny, .dey]) ∧
    (t.sp ≠ s.sp → i.mnemonic ∈ [.txs, .pha, .php, .jsr, .pla, .plp, .rts, .rti]) ∧
    (t.pc ≠ s.pc → i.mnemonic ∈ [.jmp, .jsr, .rts, .rti] ∨ i.mode = .rel) ∧
    t.params = s.params ∧ t.observers = s.observers

/-- Every byte of memory, and the memory events, are as before unless the instruction stores, and the accumulator forms of the shifts store
nothing (derived from R61, R105, R106; no dummy write is the spec's own decision D13). -/
def Obligations.MemoryChangesOnlyUnderStores : Prop :=
  ∀ (i : Instr) (s t : State), exec i s = .next t → i.mnemonic ∉ storingMnemonics ∨ i.mode = .acc →
    t.mem = s.mem ∧ t.events = s.events

/-- The transactions of R52 in the order of R61 account for what an instruction does to memory and for its Memory events, and the
instructions of R105 read their operand exactly once, in every mode but immediate (no dummy access is the spec's own decision D13). -/
def Obligations.AccessesAccountForMemory : Prop :=
  (∀ (i : Instr) (s t : State), exec i s = .next t →
    t.mem = (effectAccesses i s).foldl Access.apply s.mem ∧
    t.events = s.events ++ (effectAccesses i s).flatMap fun
      | .read _ _ => []
      | .write addr v => writeEvent s addr v) ∧
  (∀ (i : Instr) (s : State),
    i.mnemonic ∈ [.lda, .ldx, .ldy, .adc, .sbc, .and, .ora, .eor, .bit, .cmp, .cpx, .cpy] → i.mode ≠ .imm →
      ∃ ea m, effectiveAddress i.operand s = some ea ∧ operandValue i.operand s = some m ∧ effectAccesses i s = [.read ea m]) ∧
  ∀ s : State, fetch s = none → stepAccesses s = [.read s.pc (s.memRead s.pc)]

/-- "No instruction can raise an error once decoded" (R257): every instruction completes from every state, Halted for BRK and for nothing
else, its outcome otherwise left as it was. -/
def Obligations.EveryInstructionCompletes : Prop :=
  ∀ (i : Instr) (s : State), ∃ t, exec i s = .next t ∧ t.lastOutcome = (if i = .brk then .halted else s.lastOutcome)

/-- The opcode byte alone decides a step's outcome (R250, R252, R257): undefined is InvalidOpcode with PC0 and the byte (D7), 0x00 is
Halted, every other opcode is Continuing. -/
def Obligations.OpcodeDecidesTheOutcome : Prop :=
  ∀ s : State,
    ((s.memRead s.pc).toNat ∈ undefinedOpcodes → step s = .fault (.invalidOpcode s.pc (s.memRead s.pc))) ∧
    (s.memRead s.pc = 0#8 → ∃ t, step s = .next t ∧ t.lastOutcome = .halted) ∧
    ((s.memRead s.pc).toNat ∉ undefinedOpcodes → s.memRead s.pc ≠ 0#8 → ∃ t, step s = .next t ∧ t.lastOutcome = .continuing)

/-- R254: when the bytes at PC decode to i, a step is i's meaning from the state with PC advanced past it, with the step's CPU and
Registers events after the instruction's own. -/
def Obligations.StepRunsTheDecodedInstruction : Prop :=
  ∀ (s u : State) (i : Instr) (rest : List Byte),
    decode [s.memRead s.pc, s.memRead (s.pc + 1#16), s.memRead (s.pc + 2#16)] = .ok i rest →
    exec i { s with pc := s.pc + BitVec.ofNat 16 (encode i).length, lastOutcome := .continuing, events := [] } = .next u →
    step s = .next { u with events := u.events ++ cpuEvents i s u ++ registersEvents s u }

/-- The invariant (memory canonical, bit 5 of P set, B clear, `STEP_CAP` at least 1) is kept by every step (R32, R33, R36, R6). -/
def Obligations.InvariantKeptByEveryStep : Prop :=
  ∀ s t : State, s.inv = true → step s = .next t → t.inv = true

/-- The invariant holds after reset, for every choice of the parameters that the spec allows. -/
def Obligations.InvariantHoldsAtReset : Prop :=
  State.reset.inv = true ∧ ∀ q : Params, q.wf = true → (State.resetWith q).inv = true

/-- R38, R281: reset gives every piece of state its value, PC the base address, from any state, and resetting twice is resetting once. -/
def Obligations.ResetGivesTheResetState : Prop :=
  ∀ s : State,
    s.doReset.a = 0x00#8 ∧ s.doReset.x = 0x00#8 ∧ s.doReset.y = 0x00#8 ∧ s.doReset.sp = 0xFF#8 ∧
    s.doReset.pc = s.params.baseAddr ∧ s.doReset.p = 0x20#8 ∧ s.doReset.pByte = 0x20#8 ∧
    (∀ f, s.doReset.flag f = false) ∧ (∀ a, s.doReset.memRead a = 0x00#8) ∧
    s.doReset.doReset = s.doReset

/-! ### Debug events and host operations -/

/-- R264: setting an observer replaces the one of its channel and changes nothing else; with other observers a step reaches the same state
but for the events; a channel without an observer produces no event. -/
def Obligations.ObserversChangeNoArchitecturalState : Prop :=
  (∀ (s : State) (c : Channel) (o o' : Option Nat), (s.setObserver c o).setObserver c o' = s.setObserver c o' ∧
    s.setObserver c o = { s with observers := (s.setObserver c o).observers }) ∧
  (∀ (s : State) (o : Option Nat),
    (s.setObserver .cpu o).observers = { s.observers with cpu := o } ∧
    (s.setObserver .memory o).observers = { s.observers with memory := o } ∧
    (s.setObserver .registers o).observers = { s.observers with registers := o }) ∧
  (∀ (s t : State) (o : Observers), step s = .next t →
    ∃ ev, step { s with observers := o } = .next { t with observers := o, events := ev }) ∧
  (∀ s t : State, step s = .next t → ∀ e ∈ t.events,
    (s.observers.cpu = none → ∀ m o pc0 before after, e ≠ .cpu m o pc0 before after) ∧
    (s.observers.memory = none → ∀ addr old new, e ≠ .memory addr old new) ∧
    (s.observers.registers = none → ∀ after, e ≠ .registers after))

/-- The events of a completed step (R261 to R263): Memory events only if their channel has an observer, then the CPU event, then the
Registers event, each if its channel has one (the order is the spec's own decision D20; the data of the CPU event is log 5). -/
def Obligations.StepEventsInOrder : Prop :=
  ∀ (s t : State) (i : Instr), fetch s = some i → step s = .next t →
    ∃ writes : List DebugEvent,
      (∀ e ∈ writes, ∃ a old new, e = .memory a old new) ∧
      (s.observers.memory = none ∨ i.mnemonic ∉ storingMnemonics ∨ i.mode = .acc → writes = []) ∧
      (s.observers.memory ≠ none → i.mnemonic ∈ storingMnemonics → i.mode ≠ .acc → writes ≠ []) ∧
      t.events = writes ++
        (if s.observers.cpu = none then []
         else [.cpu i.mnemonic (resolveOperand i.operand (startStep i s)) s.pc s.snapshot t.snapshot]) ++
        (if s.observers.registers = none then [] else [.registers t.snapshot])

/-- R282, R283: load copies the image from BASE_ADDR on, sets PC there and changes nothing else; an image that does not fit is ImageTooLarge
and changes no state (what else load leaves is the spec's own decision D19). -/
def Obligations.LoadCopiesTheImage : Prop :=
  ∀ (s : State) (image : List Byte),
    (s.params.baseAddr.toNat + image.length ≤ 0x10000 → ∃ t, hostOp (.load image) s = (.done, t) ∧
      t = { s with mem := t.mem, pc := s.params.baseAddr } ∧
      ∀ a : Word, t.memRead a =
        (if s.params.baseAddr.toNat ≤ a.toNat then
          (image[a.toNat - s.params.baseAddr.toNat]?).getD (s.memRead a)
        else s.memRead a)) ∧
    (0x10000 < s.params.baseAddr.toNat + image.length → hostOp (.load image) s = (.imageTooLarge, s))

/-- R285, R253, R257: after k Continuing steps, execute with k < STEP_CAP reports the halt or the error of the next step and its state; after
STEP_CAP Continuing steps it reports StepCapExceeded and the state after them (when exactly is the spec's own decision D23). -/
def Obligations.ExecuteRunsUntilHaltErrorOrCap : Prop :=
  ∀ (k : Nat) (s t u : State), Continues k s t →
    (k < s.params.stepCap → step t = .next u → u.lastOutcome = .halted →
      s.execute.outcome = .halted ∧ s.execute.state = u) ∧
    (∀ f, k < s.params.stepCap → step t = .fault f → s.execute.outcome = .error f ∧ s.execute.state = t) ∧
    (k = s.params.stepCap → s.execute.outcome = .error .stepCapExceeded ∧ s.execute.state = t)

/-- R285, R290: execute always ends, with Halted, InvalidOpcode or StepCapExceeded, and keeps the invariant. -/
def Obligations.ExecuteEndsInOneOfThreeWays : Prop :=
  ∀ s : State, (s.execute.outcome = .halted ∨ s.execute.outcome = .error .stepCapExceeded ∨
      ∃ pc b, s.execute.outcome = .error (.invalidOpcode pc b) ∧ s.execute.state.pc = pc ∧
        s.execute.state.memRead pc = b ∧ b.toNat ∈ undefinedOpcodes) ∧
    (s.inv = true → s.execute.state.inv = true)

/-- R284: a step's outcome is Continuing, Halted or Error(InvalidOpcode), never StepCapExceeded. -/
def Obligations.StepNeverReportsTheStepCap : Prop :=
  ∀ s : State, s.stepOnce.outcome = .continuing ∨ s.stepOnce.outcome = .halted ∨
    ∃ pc b, s.stepOnce.outcome = .error (.invalidOpcode pc b)

/-- R287: the dump of `[start, end)` is its bytes in order, RangeError exactly when `end <= start` or a bound is out of the 16-bit range, and
the state does not change. -/
def Obligations.HexdumpGivesTheBytesOfARange : Prop :=
  ∀ (s : State) (lo hi : Int),
    (hostOp (.memoryHexdump lo hi) s).2 = s ∧
    (s.memoryHexdump lo hi = .rangeError ↔ hi ≤ lo ∨ lo < 0 ∨ 0xFFFF < lo ∨ hi < 0 ∨ 0xFFFF < hi) ∧
    (∀ l, s.memoryHexdump lo hi = .bytes l → (l.length : Int) = hi - lo ∧
      ∀ k : Nat, (h : k < l.length) → l[k] = s.memRead (BitVec.ofNat 16 (lo.toNat + k)))

/-- R265: an emulator operation called from inside an observer has no meaning and is refused; between steps every operation answers. -/
def Obligations.ReentrantCallsAreRefused : Prop :=
  ∀ (op : HostOp) (s : State), hostCall op true s = .refused .observerReentry ∧
    ∃ r t, hostCall op false s = .next (r, t)

/-! ### The assembler -/

/-- The source's sample texts (W3, W4, W5) assemble to the bytes of `95_test_vectors.md`, and the undefined label is named. -/
def Obligations.SampleTextsAssemble : Prop :=
  assemble 0x8000#16 "LDA #$02\nBRK" = .image [0xA9#8, 0x02#8, 0x00#8] ∧
  assemble 0x8000#16 "JMP FOO\nFOO:\nBRK" = .image [0x4C#8, 0x03#8, 0x80#8, 0x00#8] ∧
  assemble 0x8000#16 "JMP FOO" = .error { line := 1, kind := .undefinedLabel, message := ['F', 'O', 'O'] } ∧
  assemble 0x8000#16 "LDA #$02\nCMP #$01\nBNE FOO\nLDA #$01\nSTA $00\nBRK\nFOO:\nLDA #$01\nSTA $01\nBRK" =
    .image [0xA9#8, 0x02#8, 0xC9#8, 0x01#8, 0xD0#8, 0x05#8, 0xA9#8, 0x01#8,
      0x85#8, 0x00#8, 0x00#8, 0xA9#8, 0x01#8, 0x85#8, 0x01#8, 0x00#8]

/-- R113 with R104: a branch offset is emitted exactly when `target - (address + 2)` lies in [-128, 127], and the branch, run at that
address, then goes to the target. -/
def Obligations.AssembledBranchesReachTheirTarget : Prop :=
  ∀ (address target : Nat),
    (branchOffset address target = none ↔
      ((target : Int) - (address + 2) < -128 ∨ 127 < (target : Int) - (address + 2))) ∧
    ∀ (off : Byte) (s : State), branchOffset address target = some off → target < 65536 →
      s.pc = BitVec.ofNat 16 (address + 2) → (relTarget off s).toNat = target

/-- R114, R81: the bytes pass 2 emits for a mnemonic in one of its modes decode to an instruction of that mnemonic and mode with that
operand value, low byte first, or with that branch offset; a value too large for its field, and a branch target above 0xFFFF, is
InvalidOperand (R115, the spec's own decision D25). -/
def Obligations.EmittedBytesDecodeToTheirInstruction : Prop :=
  (∀ (m : Mnemonic) (md : Mode) (address n : Nat) (bytes : List Byte),
    hasMode m md = true → emitOperand address md n = .ok bytes →
    ∃ (op : Byte) (i : Instr), opcodeOf m md = some op ∧ decode (op :: bytes) = .ok i [] ∧ i.mnemonic = m ∧ i.mode = md ∧
      (md = .rel → n < 65536 ∧ ∃ off, branchOffset address n = some off ∧ bytes = [off]) ∧
      (md.operandBytes = 1 → md ≠ .rel → bytes = [BitVec.ofNat 8 n] ∧ n < 256) ∧
      (md.operandBytes = 2 → bytes = [loByte (BitVec.ofNat 16 n), hiByte (BitVec.ofNat 16 n)] ∧ n < 65536)) ∧
  ∀ (md : Mode) (address n : Nat),
    (md.operandBytes ≠ 0 → 65536 ≤ n → emitOperand address md n = .error .invalidOperand) ∧
    (md.operandBytes = 1 → md ≠ .rel → 256 ≤ n → emitOperand address md n = .error .invalidOperand)
end

