-- ==== Sys2Proof/Laws/Bits.lean ====
section
/-! SUPPORT. The two bytes of a word (R9, R53). -/

namespace Sys2Proof

@[simp] theorem word_hi_lo (w : Word) : word (hiByte w) (loByte w) = w := by
  unfold word hiByte loByte
  apply BitVec.eq_of_getLsbD_eq
  intro k hk
  rw [BitVec.getLsbD_append]
  by_cases h : k < 8
  · simp [h]
  · simp only [h, decide_false, if_false, BitVec.getLsbD_extractLsb']
    rw [show 8 + (k - 8) = k by omega]
    have : k - 8 < 8 := by omega
    simp [this]

@[simp] theorem hiByte_word (h l : Byte) : hiByte (word h l) = h := by
  apply BitVec.eq_of_getLsbD_eq
  intro k hk
  have e : (word h l).getLsbD (8 + k) = h.getLsbD k := by
    unfold word
    rw [BitVec.getLsbD_append, if_neg (by omega), show 8 + k - 8 = k by omega]
  simp only [hiByte, BitVec.getLsbD_extractLsb', hk, decide_true, Bool.true_and, e]

@[simp] theorem loByte_word (h l : Byte) : loByte (word h l) = l := by
  apply BitVec.eq_of_getLsbD_eq
  intro k hk
  have e : (word h l).getLsbD (0 + k) = l.getLsbD k := by
    unfold word
    rw [BitVec.getLsbD_append, if_pos (by omega), Nat.zero_add]
  simp only [loByte, BitVec.getLsbD_extractLsb', hk, decide_true, Bool.true_and, e]

theorem word_toNat (h l : Byte) : (word h l).toNat = h.toNat * 256 + l.toNat := by
  unfold word
  rw [BitVec.toNat_append, ← Nat.shiftLeft_add_eq_or_of_lt l.isLt, Nat.shiftLeft_eq]

@[simp] theorem zext16_toNat (b : Byte) : (zext16 b).toNat = b.toNat := by
  unfold zext16
  rw [BitVec.toNat_setWidth]
  have := b.isLt
  omega

end Sys2Proof
end

