-- ==== Sys2Proof/Laws/Decode.lean ====
section
/-! SUPPORT. The two tables of the spec against each other: what a cell of the opcode map (R86) makes is encoded, by the table by mnemonic
(R87), with that cell's byte and its operand bytes. -/

namespace Sys2Proof

/-- What a cell makes is encoded as the byte `b`, then the operand bytes. -/
def OpEntry.EncodesAs (b : Byte) : OpEntry → Prop
  | .undef => True
  | .op0 i => encode i = [b]
  | .op1 f => ∀ p, encode (f p) = [b, p]
  | .op2 f => ∀ w, encode (f w) = [b, loByte w, hiByte w]

theorem OpEntry.encodesAs_undef {b : Byte} {e : OpEntry} (h : e = .undef) : e.EncodesAs b := by
  rw [h]; trivial

theorem OpEntry.encodesAs_op0 {b : Byte} {e : OpEntry} {i : Instr} (h : e = .op0 i) (k : encode i = [b]) :
    e.EncodesAs b := by
  rw [h]; exact k

theorem OpEntry.encodesAs_op1 {b : Byte} {e : OpEntry} {f : Byte → Instr} (h : e = .op1 f)
    (k : ∀ p, encode (f p) = [b, p]) : e.EncodesAs b := by
  rw [h]; exact k

theorem OpEntry.encodesAs_op2 {b : Byte} {e : OpEntry} {f : Word → Instr} (h : e = .op2 f)
    (k : ∀ w, encode (f w) = [b, loByte w, hiByte w]) : e.EncodesAs b := by
  rw [h]; exact k

theorem opEntry_encodesAs_ofNat (n : Nat) (h : n < 256) :
    (opEntry (BitVec.ofNat 8 n)).EncodesAs (BitVec.ofNat 8 n) := by
  interval_cases n <;> first
    | exact OpEntry.encodesAs_undef rfl
    | exact OpEntry.encodesAs_op0 rfl rfl
    | exact OpEntry.encodesAs_op1 rfl fun _ => rfl
    | exact OpEntry.encodesAs_op2 rfl fun _ => rfl

/-- Each cell of R86 agrees with R87. -/
theorem opEntry_encodesAs (b : Byte) : (opEntry b).EncodesAs b := by
  have h := opEntry_encodesAs_ofNat b.toNat b.isLt
  rwa [BitVec.ofNat_toNat, BitVec.setWidth_eq] at h

/-- The bytes of an instruction are the opcode byte of its mnemonic and mode (R87), then its operand bytes. -/
theorem encode_eq_cons (i : Instr) : ∃ b, opcodeOf i.mnemonic i.mode = some b ∧ encode i = b :: i.operand.bytes := by
  cases i <;> exact ⟨_, rfl, rfl⟩

theorem lookup_mem {α β : Type} [BEq α] [LawfulBEq α] {l : List (α × β)} {a : α} {b : β} (h : l.lookup a = some b) :
    (a, b) ∈ l := by
  induction l with
  | nil => simp at h
  | cons c l ih =>
    rw [List.lookup_cons] at h
    cases hc : a == c.1 with
    | true =>
      rw [hc] at h
      cases h
      rw [eq_of_beq hc]
      exact List.mem_cons_self ..
    | false =>
      rw [hc] at h
      exact List.mem_cons_of_mem _ (ih h)

/-- The mode and the opcode byte of an instruction are an entry of its mnemonic's row of R87. -/
theorem encode_in_row (i : Instr) : ∃ b, (i.mode, b) ∈ opcodeRow i.mnemonic ∧ encode i = b :: i.operand.bytes := by
  obtain ⟨b, hb, he⟩ := encode_eq_cons i
  exact ⟨b, lookup_mem hb, he⟩

/-- Every entry of R87 decodes, by R86, to its mnemonic and mode. -/
theorem opcodeRow_decodes (m : Mnemonic) :
    ∀ e ∈ opcodeRow m, decodeOpcode e.2 = some { mnemonic := m, mode := e.1 } := by
  cases m <;> decide

end Sys2Proof
end

