-- ==== Sys2Proof/Laws/Flags.lean ====
section
/-! SUPPORT. Reading a bit of P after writing one: the flags (R26), bit 5 (R33), and P as a byte (R34). -/

namespace Sys2Proof.Machine

theorem Flag.bit_lt (f : Flag) : f.bit < 8 := by cases f <;> decide

theorem Flag.bit_ne_five (f : Flag) : f.bit ≠ 5 := by cases f <;> decide

theorem Flag.bit_inj {f g : Flag} (h : f.bit = g.bit) : f = g := by
  cases f <;> cases g <;> first | rfl | exact absurd h (by decide)

/-- A bit of P after a flag write (R26). -/
theorem putFlag_getLsbD (p : Byte) (f : Flag) (on : Bool) (k : Nat) :
    (putFlag p f on).getLsbD k = if k = f.bit then on else p.getLsbD k := by
  have hb := f.bit_lt
  by_cases hk : k < 8
  · have hbit : (1#8 <<< f.bit).getLsbD k = decide (k = f.bit) := by
      rw [BitVec.getLsbD_shiftLeft, BitVec.getLsbD_one]
      by_cases h : k = f.bit
      · simp [h, hb]
      · by_cases hlt : k < f.bit
        · simp [hlt, h]
        · have : k - f.bit ≠ 0 := by omega
          simp [this, h]
    cases on
    · simp only [putFlag, Bool.false_eq_true, if_false, BitVec.getLsbD_and, BitVec.getLsbD_not, hbit, hk]
      by_cases h : k = f.bit <;> simp [h]
    · simp only [putFlag, if_true, BitVec.getLsbD_or, hbit]
      by_cases h : k = f.bit <;> simp [h]
  · have h : k ≠ f.bit := by omega
    rw [if_neg h, BitVec.getLsbD_of_ge _ _ (by omega), BitVec.getLsbD_of_ge _ _ (by omega)]

/-- A flag reads as written; every other flag as before (R26). -/
@[simp] theorem getFlag_putFlag (p : Byte) (f g : Flag) (on : Bool) :
    getFlag (putFlag p f on) g = if g = f then on else getFlag p g := by
  rw [getFlag, putFlag_getLsbD]
  by_cases h : g = f
  · simp [h]
  · rw [if_neg h, if_neg (fun e => h (Flag.bit_inj e)), getFlag]

/-- No flag write changes bit 5 (R33). -/
@[simp] theorem putFlag_bit_five (p : Byte) (f : Flag) (on : Bool) : (putFlag p f on)[5] = p[5] := by
  have h := putFlag_getLsbD p f on 5
  rw [if_neg (fun e => f.bit_ne_five e.symm)] at h
  exact h

@[simp] theorem putZN_bit_five (p v : Byte) : (putZN p v)[5] = p[5] := by simp [putZN]

/-- `SetZN(v)` (R27): Z and N from v, every other flag as before. -/
@[simp] theorem getFlag_putZN (p v : Byte) (g : Flag) :
    getFlag (putZN p v) g = if g = .n then v[7] else if g = .z then v == 0#8 else getFlag p g := by
  simp [putZN]

@[simp] theorem pLoadOf_bit_five (p v : Byte) : (pLoadOf p v)[5] = true := by simp [pLoadOf]

/-- `PLoad(v)` (R34): B as before, every other flag from v. -/
@[simp] theorem getFlag_pLoadOf (p v : Byte) (g : Flag) :
    getFlag (pLoadOf p v) g = if g = .b then getFlag p .b else v.getLsbD g.bit := by
  cases g <;> simp [pLoadOf, getFlag, Flag.bit]

@[simp] theorem pByteOf_bit_five (p : Byte) : (pByteOf p)[5] = true := by simp [pByteOf]

/-- `PByte()` (R34): every flag as it is. -/
@[simp] theorem getFlag_pByteOf (p : Byte) (g : Flag) : getFlag (pByteOf p) g = getFlag p g := by
  cases g <;> simp [pByteOf, getFlag, Flag.bit]

/-- A byte is its seven flags and bit 5. -/
theorem byte_ext_of_flags {p q : Byte} (hf : ∀ f, getFlag p f = getFlag q f) (h5 : p.getLsbD 5 = q.getLsbD 5) :
    p = q := by
  have hc := hf .c
  have hz := hf .z
  have hi := hf .i
  have hd := hf .d
  have hb := hf .b
  have hv := hf .v
  have hn := hf .n
  simp only [getFlag, Flag.bit] at hc hz hi hd hb hv hn
  apply BitVec.eq_of_getLsbD_eq
  intro k hk
  match k, hk with
  | 0, _ => exact hc
  | 1, _ => exact hz
  | 2, _ => exact hi
  | 3, _ => exact hd
  | 4, _ => exact hb
  | 5, _ => exact h5
  | 6, _ => exact hv
  | 7, _ => exact hn

end Sys2Proof.Machine
end

