-- ==== Sys2Proof/Laws/Memory.lean ====
section
/-! SUPPORT. Reading after writing, for every list of cells, and the canonical form, which every memory operation keeps. -/

namespace Sys2Proof.Machine

@[simp] theorem Memory.read_nil (a : Nat) : Memory.read [] a = Memory.default := rfl

theorem Memory.read_cons (c : Host.Cell) (m : Memory) (a : Nat) :
    Memory.read (c :: m) a = if a = c.1 then c.2 else Memory.read m a := rfl

theorem Memory.read_erase (m : Memory) (a b : Nat) :
    (m.erase a).read b = if b = a then Memory.default else m.read b := by
  induction m with
  | nil => simp [Memory.erase]
  | cons c m ih =>
    by_cases h : a = c.1
    · rw [Memory.erase, if_pos h, ih, Memory.read_cons]
      by_cases hb : b = a
      · simp [hb]
      · rw [if_neg hb, if_neg hb, if_neg (fun e => hb (e.trans h.symm))]
    · rw [Memory.erase, if_neg h, Memory.read_cons, ih, Memory.read_cons]
      by_cases hb : b = a
      · simp [hb, h]
      · simp [hb]

theorem Memory.not_mem_erase (m : Memory) (a : Nat) (w : Byte) : (a, w) ∉ m.erase a := by
  induction m with
  | nil => simp [Memory.erase]
  | cons c m ih =>
    by_cases h : a = c.1
    · simpa [Memory.erase, h] using h ▸ ih
    · rw [Memory.erase, if_neg h, List.mem_cons, not_or]
      exact ⟨fun e => h (congrArg Prod.fst e), ih⟩

theorem Memory.read_insert (m : Memory) (a b : Nat) (v : Byte) :
    ((m.erase a).insert a v).read b = if b = a then v else m.read b := by
  have general : ∀ n : Memory, (∀ w, (a, w) ∉ n) → (n.insert a v).read b = if b = a then v else n.read b := by
    intro n hn
    induction n with
    | nil => simp [Memory.insert, Memory.read_cons]
    | cons c n ih =>
      have hc : a ≠ c.1 := fun e => hn c.2 (by rw [e]; exact List.mem_cons_self ..)
      have ih := ih fun w h => hn w (List.mem_cons_of_mem _ h)
      by_cases h : a < c.1
      · rw [Memory.insert, if_pos h, Memory.read_cons]
      · rw [Memory.insert, if_neg h, Memory.read_cons, ih, Memory.read_cons]
        by_cases hb : b = a
        · simp [hb, hc]
        · simp [hb]
  rw [general _ (Memory.not_mem_erase m a), Memory.read_erase]
  by_cases hb : b = a <;> simp [hb]

/-- A read after a write (R60): the byte written at its address, every other byte as before. -/
theorem Memory.read_write (m : Memory) (a b : Nat) (v : Byte) :
    (m.write a v).read b = if b = a then v else m.read b := by
  unfold Memory.write
  by_cases h : v = Memory.default
  · rw [if_pos h, Memory.read_erase, h]
  · rw [if_neg h, Memory.read_insert]

@[simp] theorem Memory.read_write_same (m : Memory) (a : Nat) (v : Byte) : (m.write a v).read a = v := by
  rw [Memory.read_write, if_pos rfl]

theorem Memory.read_write_other (m : Memory) {a b : Nat} (v : Byte) (h : b ≠ a) :
    (m.write a v).read b = m.read b := by
  rw [Memory.read_write, if_neg h]

/-! ### The canonical form -/

theorem Memory.wfFrom_cons (lo : Nat) (c : Host.Cell) (m : Memory) :
    Memory.wfFrom lo (c :: m) = true ↔
      lo ≤ c.1 ∧ c.1 < 65536 ∧ c.2 ≠ Memory.default ∧ Memory.wfFrom (c.1 + 1) m = true := by
  simp [Memory.wfFrom, and_assoc]

theorem Memory.wfFrom_mono {lo lo' : Nat} {m : Memory} (hl : lo' ≤ lo) (h : Memory.wfFrom lo m = true) :
    Memory.wfFrom lo' m = true := by
  cases m with
  | nil => rfl
  | cons c m =>
    rw [Memory.wfFrom_cons] at h ⊢
    exact ⟨by omega, h.2⟩

theorem Memory.wfFrom_erase {lo : Nat} {m : Memory} (a : Nat) (h : Memory.wfFrom lo m = true) :
    Memory.wfFrom lo (m.erase a) = true := by
  induction m generalizing lo with
  | nil => rfl
  | cons c m ih =>
    rw [Memory.wfFrom_cons] at h
    by_cases hc : a = c.1
    · rw [Memory.erase, if_pos hc]
      exact Memory.wfFrom_mono (by omega) (ih h.2.2.2)
    · rw [Memory.erase, if_neg hc, Memory.wfFrom_cons]
      exact ⟨h.1, h.2.1, h.2.2.1, ih h.2.2.2⟩

theorem Memory.wfFrom_insert {lo a : Nat} {v : Byte} {m : Memory} (hlo : lo ≤ a) (ha : a < 65536)
    (hv : v ≠ Memory.default) (h : Memory.wfFrom lo m = true) (absent : ∀ w, (a, w) ∉ m) :
    Memory.wfFrom lo (m.insert a v) = true := by
  induction m generalizing lo with
  | nil =>
    rw [Memory.insert, Memory.wfFrom_cons]
    exact ⟨hlo, ha, hv, rfl⟩
  | cons c m ih =>
    rw [Memory.wfFrom_cons] at h
    have hne : a ≠ c.1 := fun e => absent c.2 (by rw [e]; exact List.mem_cons_self ..)
    by_cases hc : a < c.1
    · rw [Memory.insert, if_pos hc, Memory.wfFrom_cons, Memory.wfFrom_cons]
      exact ⟨hlo, ha, hv, hc, h.2⟩
    · rw [Memory.insert, if_neg hc, Memory.wfFrom_cons]
      exact ⟨h.1, h.2.1, h.2.2.1, ih (by omega) h.2.2.2 fun w hw => absent w (List.mem_cons_of_mem _ hw)⟩

/-- A write inside the address space keeps the canonical form. -/
theorem Memory.wf_write {m : Memory} {a : Nat} (v : Byte) (ha : a < 65536) (h : m.wf = true) :
    (m.write a v).wf = true := by
  unfold Memory.write
  by_cases hv : v = Memory.default
  · rw [if_pos hv]; exact Memory.wfFrom_erase a h
  · rw [if_neg hv]
    exact Memory.wfFrom_insert (Nat.zero_le a) ha hv (Memory.wfFrom_erase a h) (Memory.not_mem_erase m a)

/-- Reset memory has the canonical form. -/
theorem Memory.wf_reset (q : Params) : (State.resetWith q).mem.wf = true := rfl

/-- Below the first listed address everything reads as the default. -/
theorem Memory.read_below {lo a : Nat} {m : Memory} (h : Memory.wfFrom lo m = true) (ha : a < lo) :
    m.read a = Memory.default := by
  induction m generalizing lo with
  | nil => rfl
  | cons c m ih =>
    rw [Memory.wfFrom_cons] at h
    rw [Memory.read_cons, if_neg (by omega)]
    exact ih h.2.2.2 (by omega)

end Sys2Proof.Machine
end

