-- ==== Sys2Proof/Laws/State.lean ====
section
/-! SUPPORT. One lemma for each field under each update, true by rfl and tagged simp, so that no proof unfolds an update. -/

namespace Sys2Proof.Machine

/-! ### `setA` -/

@[simp] theorem State.setA_a (s : State) (v : Byte) : (s.setA v).a = v := rfl
@[simp] theorem State.setA_x (s : State) (v : Byte) : (s.setA v).x = s.x := rfl
@[simp] theorem State.setA_y (s : State) (v : Byte) : (s.setA v).y = s.y := rfl
@[simp] theorem State.setA_sp (s : State) (v : Byte) : (s.setA v).sp = s.sp := rfl
@[simp] theorem State.setA_pc (s : State) (v : Byte) : (s.setA v).pc = s.pc := rfl
@[simp] theorem State.setA_p (s : State) (v : Byte) : (s.setA v).p = s.p := rfl
@[simp] theorem State.setA_mem (s : State) (v : Byte) : (s.setA v).mem = s.mem := rfl
@[simp] theorem State.setA_params (s : State) (v : Byte) : (s.setA v).params = s.params := rfl
@[simp] theorem State.setA_observers (s : State) (v : Byte) : (s.setA v).observers = s.observers := rfl
@[simp] theorem State.setA_lastOutcome (s : State) (v : Byte) : (s.setA v).lastOutcome = s.lastOutcome := rfl
@[simp] theorem State.setA_events (s : State) (v : Byte) : (s.setA v).events = s.events := rfl
@[simp] theorem State.setA_memRead (s : State) (v : Byte) (a : Word) : (s.setA v).memRead a = s.memRead a := rfl

/-! ### `setX` -/

@[simp] theorem State.setX_a (s : State) (v : Byte) : (s.setX v).a = s.a := rfl
@[simp] theorem State.setX_x (s : State) (v : Byte) : (s.setX v).x = v := rfl
@[simp] theorem State.setX_y (s : State) (v : Byte) : (s.setX v).y = s.y := rfl
@[simp] theorem State.setX_sp (s : State) (v : Byte) : (s.setX v).sp = s.sp := rfl
@[simp] theorem State.setX_pc (s : State) (v : Byte) : (s.setX v).pc = s.pc := rfl
@[simp] theorem State.setX_p (s : State) (v : Byte) : (s.setX v).p = s.p := rfl
@[simp] theorem State.setX_mem (s : State) (v : Byte) : (s.setX v).mem = s.mem := rfl
@[simp] theorem State.setX_params (s : State) (v : Byte) : (s.setX v).params = s.params := rfl
@[simp] theorem State.setX_observers (s : State) (v : Byte) : (s.setX v).observers = s.observers := rfl
@[simp] theorem State.setX_lastOutcome (s : State) (v : Byte) : (s.setX v).lastOutcome = s.lastOutcome := rfl
@[simp] theorem State.setX_events (s : State) (v : Byte) : (s.setX v).events = s.events := rfl
@[simp] theorem State.setX_memRead (s : State) (v : Byte) (a : Word) : (s.setX v).memRead a = s.memRead a := rfl

/-! ### `setY` -/

@[simp] theorem State.setY_a (s : State) (v : Byte) : (s.setY v).a = s.a := rfl
@[simp] theorem State.setY_x (s : State) (v : Byte) : (s.setY v).x = s.x := rfl
@[simp] theorem State.setY_y (s : State) (v : Byte) : (s.setY v).y = v := rfl
@[simp] theorem State.setY_sp (s : State) (v : Byte) : (s.setY v).sp = s.sp := rfl
@[simp] theorem State.setY_pc (s : State) (v : Byte) : (s.setY v).pc = s.pc := rfl
@[simp] theorem State.setY_p (s : State) (v : Byte) : (s.setY v).p = s.p := rfl
@[simp] theorem State.setY_mem (s : State) (v : Byte) : (s.setY v).mem = s.mem := rfl
@[simp] theorem State.setY_params (s : State) (v : Byte) : (s.setY v).params = s.params := rfl
@[simp] theorem State.setY_observers (s : State) (v : Byte) : (s.setY v).observers = s.observers := rfl
@[simp] theorem State.setY_lastOutcome (s : State) (v : Byte) : (s.setY v).lastOutcome = s.lastOutcome := rfl
@[simp] theorem State.setY_events (s : State) (v : Byte) : (s.setY v).events = s.events := rfl
@[simp] theorem State.setY_memRead (s : State) (v : Byte) (a : Word) : (s.setY v).memRead a = s.memRead a := rfl

/-! ### `setSp` -/

@[simp] theorem State.setSp_a (s : State) (v : Byte) : (s.setSp v).a = s.a := rfl
@[simp] theorem State.setSp_x (s : State) (v : Byte) : (s.setSp v).x = s.x := rfl
@[simp] theorem State.setSp_y (s : State) (v : Byte) : (s.setSp v).y = s.y := rfl
@[simp] theorem State.setSp_sp (s : State) (v : Byte) : (s.setSp v).sp = v := rfl
@[simp] theorem State.setSp_pc (s : State) (v : Byte) : (s.setSp v).pc = s.pc := rfl
@[simp] theorem State.setSp_p (s : State) (v : Byte) : (s.setSp v).p = s.p := rfl
@[simp] theorem State.setSp_mem (s : State) (v : Byte) : (s.setSp v).mem = s.mem := rfl
@[simp] theorem State.setSp_params (s : State) (v : Byte) : (s.setSp v).params = s.params := rfl
@[simp] theorem State.setSp_observers (s : State) (v : Byte) : (s.setSp v).observers = s.observers := rfl
@[simp] theorem State.setSp_lastOutcome (s : State) (v : Byte) : (s.setSp v).lastOutcome = s.lastOutcome := rfl
@[simp] theorem State.setSp_events (s : State) (v : Byte) : (s.setSp v).events = s.events := rfl
@[simp] theorem State.setSp_memRead (s : State) (v : Byte) (a : Word) : (s.setSp v).memRead a = s.memRead a := rfl

/-! ### `setPc` -/

@[simp] theorem State.setPc_a (s : State) (v : Word) : (s.setPc v).a = s.a := rfl
@[simp] theorem State.setPc_x (s : State) (v : Word) : (s.setPc v).x = s.x := rfl
@[simp] theorem State.setPc_y (s : State) (v : Word) : (s.setPc v).y = s.y := rfl
@[simp] theorem State.setPc_sp (s : State) (v : Word) : (s.setPc v).sp = s.sp := rfl
@[simp] theorem State.setPc_pc (s : State) (v : Word) : (s.setPc v).pc = v := rfl
@[simp] theorem State.setPc_p (s : State) (v : Word) : (s.setPc v).p = s.p := rfl
@[simp] theorem State.setPc_mem (s : State) (v : Word) : (s.setPc v).mem = s.mem := rfl
@[simp] theorem State.setPc_params (s : State) (v : Word) : (s.setPc v).params = s.params := rfl
@[simp] theorem State.setPc_observers (s : State) (v : Word) : (s.setPc v).observers = s.observers := rfl
@[simp] theorem State.setPc_lastOutcome (s : State) (v : Word) : (s.setPc v).lastOutcome = s.lastOutcome := rfl
@[simp] theorem State.setPc_events (s : State) (v : Word) : (s.setPc v).events = s.events := rfl
@[simp] theorem State.setPc_memRead (s : State) (v : Word) (a : Word) : (s.setPc v).memRead a = s.memRead a := rfl

/-! ### `setP` -/

@[simp] theorem State.setP_a (s : State) (v : Byte) : (s.setP v).a = s.a := rfl
@[simp] theorem State.setP_x (s : State) (v : Byte) : (s.setP v).x = s.x := rfl
@[simp] theorem State.setP_y (s : State) (v : Byte) : (s.setP v).y = s.y := rfl
@[simp] theorem State.setP_sp (s : State) (v : Byte) : (s.setP v).sp = s.sp := rfl
@[simp] theorem State.setP_pc (s : State) (v : Byte) : (s.setP v).pc = s.pc := rfl
@[simp] theorem State.setP_p (s : State) (v : Byte) : (s.setP v).p = v := rfl
@[simp] theorem State.setP_mem (s : State) (v : Byte) : (s.setP v).mem = s.mem := rfl
@[simp] theorem State.setP_params (s : State) (v : Byte) : (s.setP v).params = s.params := rfl
@[simp] theorem State.setP_observers (s : State) (v : Byte) : (s.setP v).observers = s.observers := rfl
@[simp] theorem State.setP_lastOutcome (s : State) (v : Byte) : (s.setP v).lastOutcome = s.lastOutcome := rfl
@[simp] theorem State.setP_events (s : State) (v : Byte) : (s.setP v).events = s.events := rfl
@[simp] theorem State.setP_memRead (s : State) (v : Byte) (a : Word) : (s.setP v).memRead a = s.memRead a := rfl

/-! ### `setFlag` -/

@[simp] theorem State.setFlag_a (s : State) (f : Flag) (on : Bool) : (s.setFlag f on).a = s.a := rfl
@[simp] theorem State.setFlag_x (s : State) (f : Flag) (on : Bool) : (s.setFlag f on).x = s.x := rfl
@[simp] theorem State.setFlag_y (s : State) (f : Flag) (on : Bool) : (s.setFlag f on).y = s.y := rfl
@[simp] theorem State.setFlag_sp (s : State) (f : Flag) (on : Bool) : (s.setFlag f on).sp = s.sp := rfl
@[simp] theorem State.setFlag_pc (s : State) (f : Flag) (on : Bool) : (s.setFlag f on).pc = s.pc := rfl
@[simp] theorem State.setFlag_p (s : State) (f : Flag) (on : Bool) : (s.setFlag f on).p = putFlag s.p f on := rfl
@[simp] theorem State.setFlag_mem (s : State) (f : Flag) (on : Bool) : (s.setFlag f on).mem = s.mem := rfl
@[simp] theorem State.setFlag_params (s : State) (f : Flag) (on : Bool) : (s.setFlag f on).params = s.params := rfl
@[simp] theorem State.setFlag_observers (s : State) (f : Flag) (on : Bool) : (s.setFlag f on).observers = s.observers := rfl
@[simp] theorem State.setFlag_lastOutcome (s : State) (f : Flag) (on : Bool) : (s.setFlag f on).lastOutcome = s.lastOutcome := rfl
@[simp] theorem State.setFlag_events (s : State) (f : Flag) (on : Bool) : (s.setFlag f on).events = s.events := rfl
@[simp] theorem State.setFlag_memRead (s : State) (f : Flag) (on : Bool) (a : Word) : (s.setFlag f on).memRead a = s.memRead a := rfl

/-! ### `setZN` -/

@[simp] theorem State.setZN_a (s : State) (v : Byte) : (s.setZN v).a = s.a := rfl
@[simp] theorem State.setZN_x (s : State) (v : Byte) : (s.setZN v).x = s.x := rfl
@[simp] theorem State.setZN_y (s : State) (v : Byte) : (s.setZN v).y = s.y := rfl
@[simp] theorem State.setZN_sp (s : State) (v : Byte) : (s.setZN v).sp = s.sp := rfl
@[simp] theorem State.setZN_pc (s : State) (v : Byte) : (s.setZN v).pc = s.pc := rfl
@[simp] theorem State.setZN_p (s : State) (v : Byte) : (s.setZN v).p = putZN s.p v := rfl
@[simp] theorem State.setZN_mem (s : State) (v : Byte) : (s.setZN v).mem = s.mem := rfl
@[simp] theorem State.setZN_params (s : State) (v : Byte) : (s.setZN v).params = s.params := rfl
@[simp] theorem State.setZN_observers (s : State) (v : Byte) : (s.setZN v).observers = s.observers := rfl
@[simp] theorem State.setZN_lastOutcome (s : State) (v : Byte) : (s.setZN v).lastOutcome = s.lastOutcome := rfl
@[simp] theorem State.setZN_events (s : State) (v : Byte) : (s.setZN v).events = s.events := rfl
@[simp] theorem State.setZN_memRead (s : State) (v : Byte) (a : Word) : (s.setZN v).memRead a = s.memRead a := rfl

/-! ### `pLoad` -/

@[simp] theorem State.pLoad_a (s : State) (v : Byte) : (s.pLoad v).a = s.a := rfl
@[simp] theorem State.pLoad_x (s : State) (v : Byte) : (s.pLoad v).x = s.x := rfl
@[simp] theorem State.pLoad_y (s : State) (v : Byte) : (s.pLoad v).y = s.y := rfl
@[simp] theorem State.pLoad_sp (s : State) (v : Byte) : (s.pLoad v).sp = s.sp := rfl
@[simp] theorem State.pLoad_pc (s : State) (v : Byte) : (s.pLoad v).pc = s.pc := rfl
@[simp] theorem State.pLoad_p (s : State) (v : Byte) : (s.pLoad v).p = pLoadOf s.p v := rfl
@[simp] theorem State.pLoad_mem (s : State) (v : Byte) : (s.pLoad v).mem = s.mem := rfl
@[simp] theorem State.pLoad_params (s : State) (v : Byte) : (s.pLoad v).params = s.params := rfl
@[simp] theorem State.pLoad_observers (s : State) (v : Byte) : (s.pLoad v).observers = s.observers := rfl
@[simp] theorem State.pLoad_lastOutcome (s : State) (v : Byte) : (s.pLoad v).lastOutcome = s.lastOutcome := rfl
@[simp] theorem State.pLoad_events (s : State) (v : Byte) : (s.pLoad v).events = s.events := rfl
@[simp] theorem State.pLoad_memRead (s : State) (v : Byte) (a : Word) : (s.pLoad v).memRead a = s.memRead a := rfl

/-! ### `halt` -/

@[simp] theorem State.halt_a (s : State) : (s.halt).a = s.a := rfl
@[simp] theorem State.halt_x (s : State) : (s.halt).x = s.x := rfl
@[simp] theorem State.halt_y (s : State) : (s.halt).y = s.y := rfl
@[simp] theorem State.halt_sp (s : State) : (s.halt).sp = s.sp := rfl
@[simp] theorem State.halt_pc (s : State) : (s.halt).pc = s.pc := rfl
@[simp] theorem State.halt_p (s : State) : (s.halt).p = s.p := rfl
@[simp] theorem State.halt_mem (s : State) : (s.halt).mem = s.mem := rfl
@[simp] theorem State.halt_params (s : State) : (s.halt).params = s.params := rfl
@[simp] theorem State.halt_observers (s : State) : (s.halt).observers = s.observers := rfl
@[simp] theorem State.halt_lastOutcome (s : State) : (s.halt).lastOutcome = .halted := rfl
@[simp] theorem State.halt_events (s : State) : (s.halt).events = s.events := rfl
@[simp] theorem State.halt_memRead (s : State) (a : Word) : (s.halt).memRead a = s.memRead a := rfl

/-! ### `memWrite` -/

@[simp] theorem State.memWrite_a (s : State) (a : Word) (v : Byte) : (s.memWrite a v).a = s.a := rfl
@[simp] theorem State.memWrite_x (s : State) (a : Word) (v : Byte) : (s.memWrite a v).x = s.x := rfl
@[simp] theorem State.memWrite_y (s : State) (a : Word) (v : Byte) : (s.memWrite a v).y = s.y := rfl
@[simp] theorem State.memWrite_sp (s : State) (a : Word) (v : Byte) : (s.memWrite a v).sp = s.sp := rfl
@[simp] theorem State.memWrite_pc (s : State) (a : Word) (v : Byte) : (s.memWrite a v).pc = s.pc := rfl
@[simp] theorem State.memWrite_p (s : State) (a : Word) (v : Byte) : (s.memWrite a v).p = s.p := rfl
@[simp] theorem State.memWrite_mem (s : State) (a : Word) (v : Byte) : (s.memWrite a v).mem = s.mem.write a.toNat v := rfl
@[simp] theorem State.memWrite_params (s : State) (a : Word) (v : Byte) : (s.memWrite a v).params = s.params := rfl
@[simp] theorem State.memWrite_observers (s : State) (a : Word) (v : Byte) : (s.memWrite a v).observers = s.observers := rfl
@[simp] theorem State.memWrite_lastOutcome (s : State) (a : Word) (v : Byte) : (s.memWrite a v).lastOutcome = s.lastOutcome := rfl
@[simp] theorem State.memWrite_events (s : State) (a : Word) (v : Byte) : (s.memWrite a v).events = s.events ++ s.memEvent a v := rfl

/-! ### `push` -/

@[simp] theorem State.push_a (s : State) (v : Byte) : (s.push v).a = s.a := rfl
@[simp] theorem State.push_x (s : State) (v : Byte) : (s.push v).x = s.x := rfl
@[simp] theorem State.push_y (s : State) (v : Byte) : (s.push v).y = s.y := rfl
@[simp] theorem State.push_sp (s : State) (v : Byte) : (s.push v).sp = s.sp - 1#8 := rfl
@[simp] theorem State.push_pc (s : State) (v : Byte) : (s.push v).pc = s.pc := rfl
@[simp] theorem State.push_p (s : State) (v : Byte) : (s.push v).p = s.p := rfl
@[simp] theorem State.push_mem (s : State) (v : Byte) : (s.push v).mem = s.mem.write (stackAddr s.sp).toNat v := rfl
@[simp] theorem State.push_params (s : State) (v : Byte) : (s.push v).params = s.params := rfl
@[simp] theorem State.push_observers (s : State) (v : Byte) : (s.push v).observers = s.observers := rfl
@[simp] theorem State.push_lastOutcome (s : State) (v : Byte) : (s.push v).lastOutcome = s.lastOutcome := rfl
@[simp] theorem State.push_events (s : State) (v : Byte) : (s.push v).events = s.events ++ s.memEvent (stackAddr s.sp) v := rfl

/-! ### `startStep` and `endStep` -/

@[simp] theorem startStep_a (i : Instr) (s : State) : (startStep i s).a = s.a := rfl
@[simp] theorem startStep_x (i : Instr) (s : State) : (startStep i s).x = s.x := rfl
@[simp] theorem startStep_y (i : Instr) (s : State) : (startStep i s).y = s.y := rfl
@[simp] theorem startStep_sp (i : Instr) (s : State) : (startStep i s).sp = s.sp := rfl
@[simp] theorem startStep_pc (i : Instr) (s : State) : (startStep i s).pc = s.pc + BitVec.ofNat 16 i.length := rfl
@[simp] theorem startStep_p (i : Instr) (s : State) : (startStep i s).p = s.p := rfl
@[simp] theorem startStep_mem (i : Instr) (s : State) : (startStep i s).mem = s.mem := rfl
@[simp] theorem startStep_params (i : Instr) (s : State) : (startStep i s).params = s.params := rfl
@[simp] theorem startStep_observers (i : Instr) (s : State) : (startStep i s).observers = s.observers := rfl
@[simp] theorem startStep_lastOutcome (i : Instr) (s : State) : (startStep i s).lastOutcome = .continuing := rfl
@[simp] theorem startStep_events (i : Instr) (s : State) : (startStep i s).events = [] := rfl
@[simp] theorem startStep_memRead (i : Instr) (s : State) (a : Word) : (startStep i s).memRead a = s.memRead a := rfl

@[simp] theorem endStep_a (i : Instr) (s t : State) : (endStep i s t).a = t.a := rfl
@[simp] theorem endStep_x (i : Instr) (s t : State) : (endStep i s t).x = t.x := rfl
@[simp] theorem endStep_y (i : Instr) (s t : State) : (endStep i s t).y = t.y := rfl
@[simp] theorem endStep_sp (i : Instr) (s t : State) : (endStep i s t).sp = t.sp := rfl
@[simp] theorem endStep_pc (i : Instr) (s t : State) : (endStep i s t).pc = t.pc := rfl
@[simp] theorem endStep_p (i : Instr) (s t : State) : (endStep i s t).p = t.p := rfl
@[simp] theorem endStep_mem (i : Instr) (s t : State) : (endStep i s t).mem = t.mem := rfl
@[simp] theorem endStep_params (i : Instr) (s t : State) : (endStep i s t).params = t.params := rfl
@[simp] theorem endStep_observers (i : Instr) (s t : State) : (endStep i s t).observers = t.observers := rfl
@[simp] theorem endStep_lastOutcome (i : Instr) (s t : State) : (endStep i s t).lastOutcome = t.lastOutcome := rfl
@[simp] theorem endStep_events (i : Instr) (s t : State) :
    (endStep i s t).events = t.events ++ cpuEvents i s t ++ registersEvents s t := rfl

end Sys2Proof.Machine
end

