-- ==== Sys2Proof/Laws/Ops.lean ====
section
/-! SUPPORT. What each shared operation over the state can do: memory access, the stack, placing bytes. -/

namespace Sys2Proof.Machine

/-- A read after a `MemWrite` (R50, R51, R60). -/
theorem State.memRead_memWrite (s : State) (a b : Word) (v : Byte) :
    (s.memWrite a v).memRead b = if b = a then v else s.memRead b := by
  simp only [State.memRead, State.memWrite_mem, Memory.read_write, BitVec.toNat_inj]

@[simp] theorem State.memRead_memWrite_same (s : State) (a : Word) (v : Byte) :
    (s.memWrite a v).memRead a = v := by
  rw [State.memRead_memWrite, if_pos rfl]

theorem State.memWrite_wf {s : State} (a : Word) (v : Byte) (h : s.mem.wf = true) :
    (s.memWrite a v).mem.wf = true :=
  Memory.wf_write v a.isLt h

@[simp] theorem State.push_memRead (s : State) (v : Byte) (b : Word) :
    (s.push v).memRead b = if b = stackAddr s.sp then v else s.memRead b :=
  State.memRead_memWrite s (stackAddr s.sp) b v

theorem State.push_wf {s : State} (v : Byte) (h : s.mem.wf = true) : (s.push v).mem.wf = true :=
  State.memWrite_wf (stackAddr s.sp) v h

/-- `Pull()` (R57): the byte above SP, and SP one higher. -/
theorem State.pull_eq (s : State) : s.pull = (s.memRead (stackAddr (s.sp + 1#8)), s.setSp (s.sp + 1#8)) := rfl

theorem stackAddr_inj {p q : Byte} (h : stackAddr p = stackAddr q) : p = q := by
  have := congrArg loByte h
  simpa [stackAddr] using this

@[simp] theorem stackAddr_eq_iff (p q : Byte) : stackAddr p = stackAddr q ↔ p = q :=
  ⟨stackAddr_inj, fun h => h ▸ rfl⟩

/-- With no memory observer a write emits nothing (R264). -/
theorem State.memEvent_none {s : State} (a : Word) (v : Byte) (h : s.observers.memory = none) :
    s.memEvent a v = [] := by
  simp [State.memEvent, h]

theorem placeBytes_wf {m : Memory} (addr : Word) (bs : List Byte) (h : m.wf = true) :
    (placeBytes m addr bs).wf = true := by
  induction bs generalizing m addr with
  | nil => exact h
  | cons v vs ih => exact ih (addr + 1#16) (Memory.wf_write v addr.isLt h)

end Sys2Proof.Machine
end

