-- ==== Sys2Proof/Laws/Exec.lean ====
section
/-! SUPPORT. What the operations the meanings share can do, each as one update of the state. -/

namespace Sys2Proof.Machine

/-- A branch writes PC alone (R214): the target, or PC as it is. -/
theorem branchIf_eq (cond : Bool) (op1 : Byte) (s : State) :
    branchIf cond op1 s = .next (s.setPc (if cond then relTarget op1 s else s.pc)) := by
  cases cond <;> rfl

/-- A pulled word (R212, R213): the byte above SP is the low one, the next the high one. -/
theorem State.pullWord_eq (s : State) :
    s.pullWord =
      (word (s.memRead (stackAddr (s.sp + 1#8 + 1#8))) (s.memRead (stackAddr (s.sp + 1#8))), s.setSp (s.sp + 1#8 + 1#8)) := rfl

theorem addToA_mem (m : Byte) (s : State) : (addToA m s).mem = s.mem := rfl

/-- ADC's effect on A and P alone (R171). -/
theorem addToA_eq (m : Byte) (s : State) :
    addToA m s = (s.setA (addByte s.a m (s.flag .c))).setP (addFlags s.p s.a m (s.flag .c)) := rfl

theorem shiftAcc_eq (r : Shifted) (s : State) :
    shiftAcc r s = .next ((s.setP (shiftFlags s.p r)).setA r.result) := rfl

theorem shiftMem_eq (ea : Word) (r : Shifted) (s : State) :
    shiftMem ea r s = .next ((s.memWrite ea r.result).setP (shiftFlags s.p r)) := rfl

/-! ### The flags after the ALU operations -/

/-- P after ADC (R171). -/
@[simp] theorem getFlag_addFlags (p a m : Byte) (c : Bool) (g : Flag) :
    getFlag (addFlags p a m c) g =
      if g = .n then (addByte a m c)[7] else if g = .z then addByte a m c == 0#8
      else if g = .v then addOverflow a m c else if g = .c then addCarry a m c else getFlag p g := by
  simp [addFlags]

/-- P after a compare (R177 to R179). -/
@[simp] theorem getFlag_cmpFlags (p reg m : Byte) (g : Flag) :
    getFlag (cmpFlags p reg m) g =
      if g = .n then (reg - m)[7] else if g = .z then reg == m
      else if g = .c then decide (m.toNat ≤ reg.toNat) else getFlag p g := by
  simp [cmpFlags]

/-- P after BIT (R176). -/
@[simp] theorem getFlag_bitFlags (p a m : Byte) (g : Flag) :
    getFlag (bitFlags p a m) g =
      if g = .v then m[6] else if g = .n then m[7] else if g = .z then (a &&& m) == 0#8 else getFlag p g := by
  simp [bitFlags]

/-- P after a shift (R196 to R199). -/
@[simp] theorem getFlag_shiftFlags (p : Byte) (r : Shifted) (g : Flag) :
    getFlag (shiftFlags p r) g =
      if g = .n then r.result[7] else if g = .z then r.result == 0#8
      else if g = .c then r.carry else getFlag p g := by
  simp [shiftFlags]

@[simp] theorem addFlags_bit_five (p a m : Byte) (c : Bool) : (addFlags p a m c)[5] = p[5] := by simp [addFlags]

@[simp] theorem cmpFlags_bit_five (p reg m : Byte) : (cmpFlags p reg m)[5] = p[5] := by simp [cmpFlags]

@[simp] theorem bitFlags_bit_five (p a m : Byte) : (bitFlags p a m)[5] = p[5] := by simp [bitFlags]

@[simp] theorem shiftFlags_bit_five (p : Byte) (r : Shifted) : (shiftFlags p r)[5] = p[5] := by simp [shiftFlags]

/-! ### Results in numbers -/

theorem addByte_toNat (a m : Byte) (c : Bool) : (addByte a m c).toNat = (a.toNat + m.toNat + c.toNat) % 256 := by
  simp [addByte, addSum]

theorem incByte_toNat (v : Byte) : (incByte v).toNat = (v.toNat + 1) % 256 := by simp [incByte]

theorem decByte_toNat (v : Byte) : (decByte v).toNat = (v.toNat + 255) % 256 := by
  simp [decByte, BitVec.toNat_sub, Nat.add_comm]

end Sys2Proof.Machine
end

