-- ==== Sys2Proof/Laws/Step.lean ====
section
/-! SUPPORT. What a step can do, said once. -/

namespace Sys2Proof.Machine

theorem step_of_fetch {s : State} {i : Instr} (h : fetch s = some i) :
    step s = finishStep i s (exec i (startStep i s)) := by
  simp [step, h]

theorem step_of_fetch_none {s : State} (h : fetch s = none) : step s = .fault (invalidOpcodeAt s) := by
  simp [step, h]

theorem finishStep_next {i : Instr} {s t : State} {r : Result} (h : finishStep i s r = .next t) :
    ∃ u, r = .next u ∧ t = endStep i s u := by
  cases r with
  | next u => exact ⟨u, rfl, by simpa [finishStep] using h.symm⟩
  | fault f => simp [finishStep] at h
  | refused r => simp [finishStep] at h

/-- A step that answers a next state ran the fetched instruction from the advanced PC (R254). -/
theorem step_cases {s t : State} (h : step s = .next t) :
    ∃ i u, fetch s = some i ∧ exec i (startStep i s) = .next u ∧ t = endStep i s u := by
  cases hf : fetch s with
  | none => rw [step_of_fetch_none hf] at h; cases h
  | some i =>
    rw [step_of_fetch hf] at h
    obtain ⟨u, hu, ht⟩ := finishStep_next h
    exact ⟨i, u, rfl, hu, ht⟩

end Sys2Proof.Machine
end

