-- ==== Sys2Proof/Tests/Slice0.lean ====
section
/-! SUPPORT. The model's own tests. Expected results are the spec's: the encodings of R87, the examples in the rules R130 to R246, and the
vectors W1 to W8 and V1 to V8 of `95_test_vectors.md` (each test names its source). Then one witness for each statement that has
hypotheses: a concrete state and operands that meet them, clause by clause. -/

namespace Sys2Proof.Tests

open Sys2Proof Sys2Proof.Machine Sys2Proof.Spec

/-- A state with bytes placed at its PC. -/
def withCode (bytes : List Byte) (s : State) : State := { s with mem := placeBytes s.mem s.pc bytes }

/-- A state with one byte of memory set. -/
def withByte (addr : Word) (v : Byte) (s : State) : State := { s with mem := s.mem.write addr.toNat v }

/-- One step completes, and its next state passes a check. -/
def stepsTo (s : State) (check : State → Bool) : Bool :=
  match step s with
  | .next t => check t
  | .fault _ => false
  | .refused _ => false

/-! ### Well-formedness: ill-formed descriptors are refused -/

/-- R133: "There is no immediate form". -/
theorem test_sta_imm_ill_formed : Descriptor.wellFormed { mnemonic := .sta, mode := .imm } = false := by decide

/-- R131: "there is no ZPX or ABSX form". -/
theorem test_ldx_zpx_ill_formed : Descriptor.wellFormed { mnemonic := .ldx, mode := .zpx } = false := by decide

/-- R176: ZP or ABS only. -/
theorem test_bit_imm_ill_formed : Descriptor.wellFormed { mnemonic := .bit, mode := .imm } = false := by decide

/-- R101: the indirect mode is used only by JMP. -/
theorem test_only_jmp_has_ind :
    (allMnemonics.filter fun m => Descriptor.wellFormed { mnemonic := m, mode := .ind }) = [.jmp] := by decide

/-- R93: the accumulator mode is used by ASL, LSR, ROL, ROR. -/
theorem test_only_shifts_have_acc :
    (allMnemonics.filter fun m => Descriptor.wellFormed { mnemonic := m, mode := .acc }) = [.asl, .lsr, .rol, .ror] := by decide

/-! ### Decoding: every row of R87, its word written out -/

theorem test_decode_lda :
    decode [0xA9#8, 0x12#8] = .ok (.ldaImm 0x12#8) [] ∧
    decode [0xA5#8, 0x12#8] = .ok (.ldaZp 0x12#8) [] ∧
    decode [0xB5#8, 0x12#8] = .ok (.ldaZpx 0x12#8) [] ∧
    decode [0xAD#8, 0x34#8, 0x12#8] = .ok (.ldaAbs 0x1234#16) [] ∧
    decode [0xBD#8, 0x34#8, 0x12#8] = .ok (.ldaAbsx 0x1234#16) [] ∧
    decode [0xB9#8, 0x34#8, 0x12#8] = .ok (.ldaAbsy 0x1234#16) [] ∧
    decode [0xA1#8, 0x12#8] = .ok (.ldaIndx 0x12#8) [] ∧
    decode [0xB1#8, 0x12#8] = .ok (.ldaIndy 0x12#8) [] := by decide

theorem test_decode_ldx :
    decode [0xA2#8, 0x12#8] = .ok (.ldxImm 0x12#8) [] ∧
    decode [0xA6#8, 0x12#8] = .ok (.ldxZp 0x12#8) [] ∧
    decode [0xB6#8, 0x12#8] = .ok (.ldxZpy 0x12#8) [] ∧
    decode [0xAE#8, 0x34#8, 0x12#8] = .ok (.ldxAbs 0x1234#16) [] ∧
    decode [0xBE#8, 0x34#8, 0x12#8] = .ok (.ldxAbsy 0x1234#16) [] := by decide

theorem test_decode_ldy :
    decode [0xA0#8, 0x12#8] = .ok (.ldyImm 0x12#8) [] ∧
    decode [0xA4#8, 0x12#8] = .ok (.ldyZp 0x12#8) [] ∧
    decode [0xB4#8, 0x12#8] = .ok (.ldyZpx 0x12#8) [] ∧
    decode [0xAC#8, 0x34#8, 0x12#8] = .ok (.ldyAbs 0x1234#16) [] ∧
    decode [0xBC#8, 0x34#8, 0x12#8] = .ok (.ldyAbsx 0x1234#16) [] := by decide

theorem test_decode_sta :
    decode [0x85#8, 0x12#8] = .ok (.staZp 0x12#8) [] ∧
    decode [0x95#8, 0x12#8] = .ok (.staZpx 0x12#8) [] ∧
    decode [0x8D#8, 0x34#8, 0x12#8] = .ok (.staAbs 0x1234#16) [] ∧
    decode [0x9D#8, 0x34#8, 0x12#8] = .ok (.staAbsx 0x1234#16) [] ∧
    decode [0x99#8, 0x34#8, 0x12#8] = .ok (.staAbsy 0x1234#16) [] ∧
    decode [0x81#8, 0x12#8] = .ok (.staIndx 0x12#8) [] ∧
    decode [0x91#8, 0x12#8] = .ok (.staIndy 0x12#8) [] := by decide

theorem test_decode_stx :
    decode [0x86#8, 0x12#8] = .ok (.stxZp 0x12#8) [] ∧
    decode [0x96#8, 0x12#8] = .ok (.stxZpy 0x12#8) [] ∧
    decode [0x8E#8, 0x34#8, 0x12#8] = .ok (.stxAbs 0x1234#16) [] := by decide

theorem test_decode_sty :
    decode [0x84#8, 0x12#8] = .ok (.styZp 0x12#8) [] ∧
    decode [0x94#8, 0x12#8] = .ok (.styZpx 0x12#8) [] ∧
    decode [0x8C#8, 0x34#8, 0x12#8] = .ok (.styAbs 0x1234#16) [] := by decide

theorem test_decode_tax :
    decode [0xAA#8] = .ok .tax [] := by decide

theorem test_decode_tay :
    decode [0xA8#8] = .ok .tay [] := by decide

theorem test_decode_txa :
    decode [0x8A#8] = .ok .txa [] := by decide

theorem test_decode_tya :
    decode [0x98#8] = .ok .tya [] := by decide

theorem test_decode_tsx :
    decode [0xBA#8] = .ok .tsx [] := by decide

theorem test_decode_txs :
    decode [0x9A#8] = .ok .txs [] := by decide

theorem test_decode_pha :
    decode [0x48#8] = .ok .pha [] := by decide

theorem test_decode_php :
    decode [0x08#8] = .ok .php [] := by decide

theorem test_decode_pla :
    decode [0x68#8] = .ok .pla [] := by decide

theorem test_decode_plp :
    decode [0x28#8] = .ok .plp [] := by decide

theorem test_decode_adc :
    decode [0x69#8, 0x12#8] = .ok (.adcImm 0x12#8) [] ∧
    decode [0x65#8, 0x12#8] = .ok (.adcZp 0x12#8) [] ∧
    decode [0x75#8, 0x12#8] = .ok (.adcZpx 0x12#8) [] ∧
    decode [0x6D#8, 0x34#8, 0x12#8] = .ok (.adcAbs 0x1234#16) [] ∧
    decode [0x7D#8, 0x34#8, 0x12#8] = .ok (.adcAbsx 0x1234#16) [] ∧
    decode [0x79#8, 0x34#8, 0x12#8] = .ok (.adcAbsy 0x1234#16) [] ∧
    decode [0x61#8, 0x12#8] = .ok (.adcIndx 0x12#8) [] ∧
    decode [0x71#8, 0x12#8] = .ok (.adcIndy 0x12#8) [] := by decide

theorem test_decode_sbc :
    decode [0xE9#8, 0x12#8] = .ok (.sbcImm 0x12#8) [] ∧
    decode [0xE5#8, 0x12#8] = .ok (.sbcZp 0x12#8) [] ∧
    decode [0xF5#8, 0x12#8] = .ok (.sbcZpx 0x12#8) [] ∧
    decode [0xED#8, 0x34#8, 0x12#8] = .ok (.sbcAbs 0x1234#16) [] ∧
    decode [0xFD#8, 0x34#8, 0x12#8] = .ok (.sbcAbsx 0x1234#16) [] ∧
    decode [0xF9#8, 0x34#8, 0x12#8] = .ok (.sbcAbsy 0x1234#16) [] ∧
    decode [0xE1#8, 0x12#8] = .ok (.sbcIndx 0x12#8) [] ∧
    decode [0xF1#8, 0x12#8] = .ok (.sbcIndy 0x12#8) [] := by decide

theorem test_decode_and :
    decode [0x29#8, 0x12#8] = .ok (.andImm 0x12#8) [] ∧
    decode [0x25#8, 0x12#8] = .ok (.andZp 0x12#8) [] ∧
    decode [0x35#8, 0x12#8] = .ok (.andZpx 0x12#8) [] ∧
    decode [0x2D#8, 0x34#8, 0x12#8] = .ok (.andAbs 0x1234#16) [] ∧
    decode [0x3D#8, 0x34#8, 0x12#8] = .ok (.andAbsx 0x1234#16) [] ∧
    decode [0x39#8, 0x34#8, 0x12#8] = .ok (.andAbsy 0x1234#16) [] ∧
    decode [0x21#8, 0x12#8] = .ok (.andIndx 0x12#8) [] ∧
    decode [0x31#8, 0x12#8] = .ok (.andIndy 0x12#8) [] := by decide

theorem test_decode_ora :
    decode [0x09#8, 0x12#8] = .ok (.oraImm 0x12#8) [] ∧
    decode [0x05#8, 0x12#8] = .ok (.oraZp 0x12#8) [] ∧
    decode [0x15#8, 0x12#8] = .ok (.oraZpx 0x12#8) [] ∧
    decode [0x0D#8, 0x34#8, 0x12#8] = .ok (.oraAbs 0x1234#16) [] ∧
    decode [0x1D#8, 0x34#8, 0x12#8] = .ok (.oraAbsx 0x1234#16) [] ∧
    decode [0x19#8, 0x34#8, 0x12#8] = .ok (.oraAbsy 0x1234#16) [] ∧
    decode [0x01#8, 0x12#8] = .ok (.oraIndx 0x12#8) [] ∧
    decode [0x11#8, 0x12#8] = .ok (.oraIndy 0x12#8) [] := by decide

theorem test_decode_eor :
    decode [0x49#8, 0x12#8] = .ok (.eorImm 0x12#8) [] ∧
    decode [0x45#8, 0x12#8] = .ok (.eorZp 0x12#8) [] ∧
    decode [0x55#8, 0x12#8] = .ok (.eorZpx 0x12#8) [] ∧
    decode [0x4D#8, 0x34#8, 0x12#8] = .ok (.eorAbs 0x1234#16) [] ∧
    decode [0x5D#8, 0x34#8, 0x12#8] = .ok (.eorAbsx 0x1234#16) [] ∧
    decode [0x59#8, 0x34#8, 0x12#8] = .ok (.eorAbsy 0x1234#16) [] ∧
    decode [0x41#8, 0x12#8] = .ok (.eorIndx 0x12#8) [] ∧
    decode [0x51#8, 0x12#8] = .ok (.eorIndy 0x12#8) [] := by decide

theorem test_decode_bit :
    decode [0x24#8, 0x12#8] = .ok (.bitZp 0x12#8) [] ∧
    decode [0x2C#8, 0x34#8, 0x12#8] = .ok (.bitAbs 0x1234#16) [] := by decide

theorem test_decode_cmp :
    decode [0xC9#8, 0x12#8] = .ok (.cmpImm 0x12#8) [] ∧
    decode [0xC5#8, 0x12#8] = .ok (.cmpZp 0x12#8) [] ∧
    decode [0xD5#8, 0x12#8] = .ok (.cmpZpx 0x12#8) [] ∧
    decode [0xCD#8, 0x34#8, 0x12#8] = .ok (.cmpAbs 0x1234#16) [] ∧
    decode [0xDD#8, 0x34#8, 0x12#8] = .ok (.cmpAbsx 0x1234#16) [] ∧
    decode [0xD9#8, 0x34#8, 0x12#8] = .ok (.cmpAbsy 0x1234#16) [] ∧
    decode [0xC1#8, 0x12#8] = .ok (.cmpIndx 0x12#8) [] ∧
    decode [0xD1#8, 0x12#8] = .ok (.cmpIndy 0x12#8) [] := by decide

theorem test_decode_cpx :
    decode [0xE0#8, 0x12#8] = .ok (.cpxImm 0x12#8) [] ∧
    decode [0xE4#8, 0x12#8] = .ok (.cpxZp 0x12#8) [] ∧
    decode [0xEC#8, 0x34#8, 0x12#8] = .ok (.cpxAbs 0x1234#16) [] := by decide

theorem test_decode_cpy :
    decode [0xC0#8, 0x12#8] = .ok (.cpyImm 0x12#8) [] ∧
    decode [0xC4#8, 0x12#8] = .ok (.cpyZp 0x12#8) [] ∧
    decode [0xCC#8, 0x34#8, 0x12#8] = .ok (.cpyAbs 0x1234#16) [] := by decide

theorem test_decode_inc :
    decode [0xE6#8, 0x12#8] = .ok (.incZp 0x12#8) [] ∧
    decode [0xF6#8, 0x12#8] = .ok (.incZpx 0x12#8) [] ∧
    decode [0xEE#8, 0x34#8, 0x12#8] = .ok (.incAbs 0x1234#16) [] ∧
    decode [0xFE#8, 0x34#8, 0x12#8] = .ok (.incAbsx 0x1234#16) [] := by decide

theorem test_decode_dec :
    decode [0xC6#8, 0x12#8] = .ok (.decZp 0x12#8) [] ∧
    decode [0xD6#8, 0x12#8] = .ok (.decZpx 0x12#8) [] ∧
    decode [0xCE#8, 0x34#8, 0x12#8] = .ok (.decAbs 0x1234#16) [] ∧
    decode [0xDE#8, 0x34#8, 0x12#8] = .ok (.decAbsx 0x1234#16) [] := by decide

theorem test_decode_inx :
    decode [0xE8#8] = .ok .inx [] := by decide

theorem test_decode_iny :
    decode [0xC8#8] = .ok .iny [] := by decide

theorem test_decode_dex :
    decode [0xCA#8] = .ok .dex [] := by decide

theorem test_decode_dey :
    decode [0x88#8] = .ok .dey [] := by decide

theorem test_decode_asl :
    decode [0x0A#8] = .ok .aslAcc [] ∧
    decode [0x06#8, 0x12#8] = .ok (.aslZp 0x12#8) [] ∧
    decode [0x16#8, 0x12#8] = .ok (.aslZpx 0x12#8) [] ∧
    decode [0x0E#8, 0x34#8, 0x12#8] = .ok (.aslAbs 0x1234#16) [] ∧
    decode [0x1E#8, 0x34#8, 0x12#8] = .ok (.aslAbsx 0x1234#16) [] := by decide

theorem test_decode_lsr :
    decode [0x4A#8] = .ok .lsrAcc [] ∧
    decode [0x46#8, 0x12#8] = .ok (.lsrZp 0x12#8) [] ∧
    decode [0x56#8, 0x12#8] = .ok (.lsrZpx 0x12#8) [] ∧
    decode [0x4E#8, 0x34#8, 0x12#8] = .ok (.lsrAbs 0x1234#16) [] ∧
    decode [0x5E#8, 0x34#8, 0x12#8] = .ok (.lsrAbsx 0x1234#16) [] := by decide

theorem test_decode_rol :
    decode [0x2A#8] = .ok .rolAcc [] ∧
    decode [0x26#8, 0x12#8] = .ok (.rolZp 0x12#8) [] ∧
    decode [0x36#8, 0x12#8] = .ok (.rolZpx 0x12#8) [] ∧
    decode [0x2E#8, 0x34#8, 0x12#8] = .ok (.rolAbs 0x1234#16) [] ∧
    decode [0x3E#8, 0x34#8, 0x12#8] = .ok (.rolAbsx 0x1234#16) [] := by decide

theorem test_decode_ror :
    decode [0x6A#8] = .ok .rorAcc [] ∧
    decode [0x66#8, 0x12#8] = .ok (.rorZp 0x12#8) [] ∧
    decode [0x76#8, 0x12#8] = .ok (.rorZpx 0x12#8) [] ∧
    decode [0x6E#8, 0x34#8, 0x12#8] = .ok (.rorAbs 0x1234#16) [] ∧
    decode [0x7E#8, 0x34#8, 0x12#8] = .ok (.rorAbsx 0x1234#16) [] := by decide

theorem test_decode_jmp :
    decode [0x4C#8, 0x34#8, 0x12#8] = .ok (.jmpAbs 0x1234#16) [] ∧
    decode [0x6C#8, 0x34#8, 0x12#8] = .ok (.jmpInd 0x1234#16) [] := by decide

theorem test_decode_jsr :
    decode [0x20#8, 0x34#8, 0x12#8] = .ok (.jsr 0x1234#16) [] := by decide

theorem test_decode_rts :
    decode [0x60#8] = .ok .rts [] := by decide

theorem test_decode_rti :
    decode [0x40#8] = .ok .rti [] := by decide

theorem test_decode_bcc :
    decode [0x90#8, 0x12#8] = .ok (.bcc 0x12#8) [] := by decide

theorem test_decode_bcs :
    decode [0xB0#8, 0x12#8] = .ok (.bcs 0x12#8) [] := by decide

theorem test_decode_beq :
    decode [0xF0#8, 0x12#8] = .ok (.beq 0x12#8) [] := by decide

theorem test_decode_bne :
    decode [0xD0#8, 0x12#8] = .ok (.bne 0x12#8) [] := by decide

theorem test_decode_bmi :
    decode [0x30#8, 0x12#8] = .ok (.bmi 0x12#8) [] := by decide

theorem test_decode_bpl :
    decode [0x10#8, 0x12#8] = .ok (.bpl 0x12#8) [] := by decide

theorem test_decode_bvc :
    decode [0x50#8, 0x12#8] = .ok (.bvc 0x12#8) [] := by decide

theorem test_decode_bvs :
    decode [0x70#8, 0x12#8] = .ok (.bvs 0x12#8) [] := by decide

theorem test_decode_brk :
    decode [0x00#8] = .ok .brk [] := by decide

theorem test_decode_nop :
    decode [0xEA#8] = .ok .nop [] := by decide

theorem test_decode_clc :
    decode [0x18#8] = .ok .clc [] := by decide

theorem test_decode_sec :
    decode [0x38#8] = .ok .sec [] := by decide

theorem test_decode_cli :
    decode [0x58#8] = .ok .cli [] := by decide

theorem test_decode_sei :
    decode [0x78#8] = .ok .sei [] := by decide

theorem test_decode_cld :
    decode [0xD8#8] = .ok .cld [] := by decide

theorem test_decode_sed :
    decode [0xF8#8] = .ok .sed [] := by decide

theorem test_decode_clv :
    decode [0xB8#8] = .ok .clv [] := by decide

/-- R88, and the two ways a list can be too short. -/
theorem test_decode_rejects :
    decode [0x02#8, 0x12#8, 0x34#8] = .rejected (.undefinedOpcode 0x02#8) ∧ decode [0x89#8, 0x00#8] = .rejected (.undefinedOpcode 0x89#8) ∧
    decode [0xA9#8] = .rejected (.truncated 0xA9#8) ∧ decode [0x4C#8, 0x00#8] = .rejected (.truncated 0x4C#8) ∧
    decode [] = .rejected .noBytes := by decide

/-- The table's numbering: the opcode in bits 7..0, `op1` in 15..8, `op2` in 23..16; bits not given are 0. -/
theorem test_decode_table_word :
    decodeTableWord 16 0x02A9 = some (.ldaImm 0x02#8) ∧ decodeTableWord 24 0x10FF6C = some (.jmpInd 0x10FF#16) ∧
    decodeTableWord 8 0x4C = some (.jmpAbs 0x0000#16) ∧ decodeTableWord 8 0x02 = none := by decide

/-- The same word, placed and run as the first instruction. -/
theorem test_with_fetch_word :
    stepsTo (State.reset.withFetchWord 16 0x02A9) (fun t => t.a == 0x02#8 && t.pc == 0x8002#16) = true := by decide

/-! ### One step of each mnemonic -/

/-- W3. -/
theorem test_lda_imm :
    stepsTo (withCode [0xA9#8, 0x02#8] State.reset)
      (fun t => t.a == 0x02#8 && t.p == 0x20#8 && t.pc == 0x8002#16) = true := by decide

/-- V2. -/
theorem test_lda_negative :
    stepsTo (withCode [0xA9#8, 0x80#8] State.reset)
      (fun t => t.a == 0x80#8 && t.p == 0xA0#8) = true := by decide

/-- V1. -/
theorem test_lda_zpx_wraps :
    stepsTo (withCode [0xB5#8, 0xF0#8] (withByte 0x0110#16 0x66#8 (withByte 0x0010#16 0x77#8 { State.reset with x := 0x20#8 })))
      (fun t => t.a == 0x77#8) = true := by decide

/-- V1. -/
theorem test_lda_absx_wraps :
    stepsTo (withCode [0xBD#8, 0xFF#8, 0xFF#8] (withByte 0x0000#16 0x33#8 { State.reset with x := 0x01#8 }))
      (fun t => t.a == 0x33#8 && t.pc == 0x8003#16) = true := by decide

/-- V1. -/
theorem test_lda_indx_wraps :
    stepsTo (withCode [0xA1#8, 0xFE#8] (withByte 0x1234#16 0x99#8 (withByte 0x0000#16 0x12#8 (withByte 0x00FF#16 0x34#8 { State.reset with x := 0x01#8 }))))
      (fun t => t.a == 0x99#8) = true := by decide

/-- V1. -/
theorem test_lda_indy_pointer_wraps :
    stepsTo (withCode [0xB1#8, 0xFF#8] (withByte 0x1308#16 0x5A#8 (withByte 0x0000#16 0x12#8 (withByte 0x00FF#16 0xF8#8 { State.reset with y := 0x10#8 }))))
      (fun t => t.a == 0x5A#8) = true := by decide

/-- V1. -/
theorem test_lda_indy_sum_wraps :
    stepsTo (withCode [0xB1#8, 0x20#8] (withByte 0x0001#16 0xAB#8 (withByte 0x0021#16 0xFF#8 (withByte 0x0020#16 0xFF#8 { State.reset with y := 0x02#8 }))))
      (fun t => t.a == 0xAB#8) = true := by decide

/-- V1. -/
theorem test_lda_operand_past_top :
    stepsTo (withCode [0xA9#8, 0x77#8] { State.reset with pc := 0xFFFF#16 })
      (fun t => t.a == 0x77#8 && t.pc == 0x0001#16) = true := by decide

/-- V2. -/
theorem test_ldx_imm :
    stepsTo (withCode [0xA2#8, 0xFF#8] State.reset)
      (fun t => t.x == 0xFF#8 && t.p == 0xA0#8) = true := by decide

/-- V1. -/
theorem test_ldx_zpy_wraps :
    stepsTo (withCode [0xB6#8, 0xFF#8] (withByte 0x0001#16 0x5C#8 { State.reset with y := 0x02#8 }))
      (fun t => t.x == 0x5C#8) = true := by decide

/-- V2. -/
theorem test_ldy_zero :
    stepsTo (withCode [0xA0#8, 0x00#8] { State.reset with y := 0x01#8 })
      (fun t => t.y == 0x00#8 && t.p == 0x22#8) = true := by decide

/-- V2. -/
theorem test_sta_no_flags :
    stepsTo (withCode [0x85#8, 0x01#8] (withByte 0x0001#16 0x55#8 { State.reset with a := 0x00#8, p := 0x20#8 }))
      (fun t => t.p == 0x20#8 && t.memRead 0x0001#16 == 0x00#8) = true := by decide

/-- V2. -/
theorem test_stx_zpy :
    stepsTo (withCode [0x96#8, 0x10#8] { State.reset with x := 0x05#8, y := 0x01#8 })
      (fun t => t.memRead 0x0011#16 == 0x05#8) = true := by decide

/-- V2. -/
theorem test_sty_zpx_wraps :
    stepsTo (withCode [0x94#8, 0xFF#8] { State.reset with y := 0x07#8, x := 0x01#8 })
      (fun t => t.memRead 0x0000#16 == 0x07#8) = true := by decide

/-- V3. -/
theorem test_tax_zero :
    stepsTo (withCode [0xAA#8] { State.reset with a := 0x00#8, x := 0x12#8 })
      (fun t => t.x == 0x00#8 && t.p == 0x22#8) = true := by decide

/-- R151. -/
theorem test_tay :
    stepsTo (withCode [0xA8#8] { State.reset with a := 0x00#8, y := 0x01#8 })
      (fun t => t.y == 0x00#8 && t.p == 0x22#8) = true := by decide

/-- R152. -/
theorem test_txa :
    stepsTo (withCode [0x8A#8] { State.reset with x := 0x7F#8 })
      (fun t => t.a == 0x7F#8 && t.p == 0x20#8) = true := by decide

/-- R153. -/
theorem test_tya :
    stepsTo (withCode [0x98#8] { State.reset with y := 0xFF#8 })
      (fun t => t.a == 0xFF#8 && t.p == 0xA0#8) = true := by decide

/-- V3. -/
theorem test_tsx_after_reset :
    stepsTo (withCode [0xBA#8] State.reset)
      (fun t => t.x == 0xFF#8 && t.p == 0xA0#8) = true := by decide

/-- V3. -/
theorem test_txs_no_flag :
    stepsTo (withCode [0x9A#8] { State.reset with x := 0x00#8, p := 0x22#8 })
      (fun t => t.sp == 0x00#8 && t.p == 0x22#8) = true := by decide

/-- V3. -/
theorem test_pha_wraps :
    stepsTo (withCode [0x48#8] { State.reset with sp := 0x00#8, a := 0x42#8 })
      (fun t => t.sp == 0xFF#8 && t.memRead 0x0100#16 == 0x42#8) = true := by decide

/-- V3. -/
theorem test_php_at_reset :
    stepsTo (withCode [0x08#8] State.reset)
      (fun t => t.sp == 0xFE#8 && t.p == 0x20#8 && t.memRead 0x01FF#16 == 0x30#8) = true := by decide

/-- V3. -/
theorem test_php_n_c :
    stepsTo (withCode [0x08#8] { State.reset with p := 0xA1#8 })
      (fun t => t.sp == 0xFE#8 && t.memRead 0x01FF#16 == 0xB1#8) = true := by decide

/-- V3. -/
theorem test_pla_zero :
    stepsTo (withCode [0x68#8] { State.reset with sp := 0xFE#8, a := 0x01#8 })
      (fun t => t.a == 0x00#8 && t.p == 0x22#8 && t.sp == 0xFF#8) = true := by decide

/-- V3. -/
theorem test_plp_all_ones_wraps :
    stepsTo (withCode [0x28#8] (withByte 0x0100#16 0xFF#8 { State.reset with sp := 0xFF#8 }))
      (fun t => t.p == 0xEF#8 && t.sp == 0x00#8) = true := by decide

/-- V3. -/
theorem test_plp_zero :
    stepsTo (withCode [0x28#8] { State.reset with sp := 0xFE#8, p := 0xE3#8 })
      (fun t => t.p == 0x20#8) = true := by decide

/-- V4. -/
theorem test_adc_carry_and_overflow :
    stepsTo (withCode [0x69#8, 0xFF#8] { State.reset with a := 0x80#8 })
      (fun t => t.a == 0x7F#8 && t.p == 0x61#8) = true := by decide

/-- V4. -/
theorem test_adc_binary_with_d :
    stepsTo (withCode [0x69#8, 0x01#8] { State.reset with a := 0x09#8, p := 0x28#8 })
      (fun t => t.a == 0x0A#8 && t.p == 0x28#8) = true := by decide

/-- V4. -/
theorem test_sbc_overflow :
    stepsTo (withCode [0xE9#8, 0x01#8] { State.reset with a := 0x80#8, p := 0x21#8 })
      (fun t => t.a == 0x7F#8 && t.p == 0x61#8) = true := by decide

/-- V4. -/
theorem test_sbc_borrow_in :
    stepsTo (withCode [0xE9#8, 0x05#8] { State.reset with a := 0x05#8 })
      (fun t => t.a == 0xFF#8 && t.p == 0xA0#8) = true := by decide

/-- V4. -/
theorem test_and_zero :
    stepsTo (withCode [0x29#8, 0x0F#8] { State.reset with a := 0xF0#8 })
      (fun t => t.a == 0x00#8 && t.p == 0x22#8) = true := by decide

/-- V4. -/
theorem test_ora :
    stepsTo (withCode [0x09#8, 0x01#8] { State.reset with a := 0x80#8 })
      (fun t => t.a == 0x81#8 && t.p == 0xA0#8) = true := by decide

/-- V4. -/
theorem test_eor_zero :
    stepsTo (withCode [0x49#8, 0xFF#8] { State.reset with a := 0xFF#8 })
      (fun t => t.a == 0x00#8 && t.p == 0x22#8) = true := by decide

/-- V4. -/
theorem test_bit_zero :
    stepsTo (withCode [0x24#8, 0x10#8] (withByte 0x0010#16 0xC0#8 { State.reset with a := 0x01#8 }))
      (fun t => t.a == 0x01#8 && t.p == 0xE2#8) = true := by decide

/-- V4. -/
theorem test_bit_v :
    stepsTo (withCode [0x2C#8, 0x00#8, 0x02#8] (withByte 0x0200#16 0x41#8 { State.reset with a := 0xC1#8 }))
      (fun t => t.a == 0xC1#8 && t.p == 0x60#8) = true := by decide

/-- V4. -/
theorem test_cmp_unsigned_less :
    stepsTo (withCode [0xC9#8, 0x80#8] { State.reset with a := 0x00#8 })
      (fun t => t.a == 0x00#8 && t.p == 0xA0#8) = true := by decide

/-- V4. -/
theorem test_cmp_equal :
    stepsTo (withCode [0xC9#8, 0x80#8] { State.reset with a := 0x80#8 })
      (fun t => t.a == 0x80#8 && t.p == 0x23#8) = true := by decide

/-- V4. -/
theorem test_cpx_less :
    stepsTo (withCode [0xE0#8, 0x20#8] { State.reset with x := 0x10#8 })
      (fun t => t.x == 0x10#8 && t.p == 0xA0#8) = true := by decide

/-- V4. -/
theorem test_cpy_equal :
    stepsTo (withCode [0xC0#8, 0x05#8] { State.reset with y := 0x05#8 })
      (fun t => t.y == 0x05#8 && t.p == 0x23#8) = true := by decide

/-- V5. -/
theorem test_inc_wraps :
    stepsTo (withCode [0xE6#8, 0x10#8] (withByte 0x0010#16 0xFF#8 { State.reset with p := 0x21#8 }))
      (fun t => t.p == 0x23#8 && t.memRead 0x0010#16 == 0x00#8) = true := by decide

/-- V5. -/
theorem test_dec_wraps :
    stepsTo (withCode [0xC6#8, 0x10#8] State.reset)
      (fun t => t.p == 0xA0#8 && t.memRead 0x0010#16 == 0xFF#8) = true := by decide

/-- V5. -/
theorem test_inx_wraps :
    stepsTo (withCode [0xE8#8] { State.reset with x := 0xFF#8 })
      (fun t => t.x == 0x00#8 && t.p == 0x22#8) = true := by decide

/-- R193. -/
theorem test_iny :
    stepsTo (withCode [0xC8#8] { State.reset with y := 0x00#8 })
      (fun t => t.y == 0x01#8 && t.p == 0x20#8) = true := by decide

/-- V5. -/
theorem test_dex_wraps :
    stepsTo (withCode [0xCA#8] { State.reset with x := 0x00#8, p := 0x21#8 })
      (fun t => t.x == 0xFF#8 && t.p == 0xA1#8) = true := by decide

/-- V5. -/
theorem test_dey_zero :
    stepsTo (withCode [0x88#8] { State.reset with y := 0x01#8 })
      (fun t => t.y == 0x00#8 && t.p == 0x22#8) = true := by decide

/-- V5. -/
theorem test_asl_out :
    stepsTo (withCode [0x0A#8] { State.reset with a := 0x80#8 })
      (fun t => t.a == 0x00#8 && t.p == 0x23#8) = true := by decide

/-- V5. -/
theorem test_lsr_memory :
    stepsTo (withCode [0x46#8, 0x20#8] (withByte 0x0020#16 0x02#8 { State.reset with a := 0x55#8 }))
      (fun t => t.a == 0x55#8 && t.p == 0x20#8 && t.memRead 0x0020#16 == 0x01#8) = true := by decide

/-- V5. -/
theorem test_lsr_all_ones :
    stepsTo (withCode [0x4A#8] { State.reset with a := 0xFF#8 })
      (fun t => t.a == 0x7F#8 && t.p == 0x21#8) = true := by decide

/-- V5. -/
theorem test_rol_carry_in :
    stepsTo (withCode [0x2A#8] { State.reset with a := 0x40#8, p := 0x21#8 })
      (fun t => t.a == 0x81#8 && t.p == 0xA0#8) = true := by decide

/-- V5. -/
theorem test_ror_carry_in :
    stepsTo (withCode [0x6A#8] { State.reset with a := 0x00#8, p := 0x21#8 })
      (fun t => t.a == 0x80#8 && t.p == 0xA0#8) = true := by decide

/-- V6. -/
theorem test_jmp_abs :
    stepsTo (withCode [0x4C#8, 0x34#8, 0x12#8] State.reset)
      (fun t => t.pc == 0x1234#16) = true := by decide

/-- V6. -/
theorem test_jsr :
    stepsTo (withCode [0x20#8, 0x10#8, 0x80#8] { State.reset with pc := 0x800A#16 })
      (fun t => t.sp == 0xFD#8 && t.pc == 0x8010#16 && t.memRead 0x01FF#16 == 0x80#8 && t.memRead 0x01FE#16 == 0x0C#8) = true := by decide

/-- V6. -/
theorem test_rts :
    stepsTo (withCode [0x60#8] (withByte 0x01FF#16 0x80#8 (withByte 0x01FE#16 0x0C#8 { State.reset with sp := 0xFD#8 })))
      (fun t => t.pc == 0x800D#16 && t.sp == 0xFF#8) = true := by decide

/-- V6. -/
theorem test_rts_from_reset :
    stepsTo (withCode [0x60#8] State.reset)
      (fun t => t.pc == 0x0001#16 && t.sp == 0x01#8) = true := by decide

/-- V6. -/
theorem test_rti :
    stepsTo (withCode [0x40#8] (withByte 0x01FF#16 0x12#8 (withByte 0x01FE#16 0x34#8 (withByte 0x01FD#16 0xC3#8 { State.reset with sp := 0xFC#8 }))))
      (fun t => t.p == 0xE3#8 && t.pc == 0x1234#16 && t.sp == 0xFF#8) = true := by decide

/-- V6. -/
theorem test_bcc_taken :
    stepsTo (withCode [0x90#8, 0x10#8] State.reset)
      (fun t => t.pc == 0x8012#16) = true := by decide

/-- V6. -/
theorem test_bcs_not_taken :
    stepsTo (withCode [0xB0#8, 0x10#8] State.reset)
      (fun t => t.pc == 0x8002#16) = true := by decide

/-- V6. -/
theorem test_beq_back :
    stepsTo (withCode [0xF0#8, 0x80#8] { State.reset with p := 0x22#8 })
      (fun t => t.pc == 0x7F82#16) = true := by decide

/-- W5. -/
theorem test_bne_taken :
    stepsTo (withCode [0xD0#8, 0x05#8] { State.reset with pc := 0x8004#16 })
      (fun t => t.pc == 0x800B#16) = true := by decide

/-- V6. -/
theorem test_bne_not_taken :
    stepsTo (withCode [0xD0#8, 0x05#8] { State.reset with pc := 0x8004#16, p := 0x22#8 })
      (fun t => t.pc == 0x8006#16) = true := by decide

/-- V6. -/
theorem test_bmi_to_itself :
    stepsTo (withCode [0x30#8, 0xFE#8] { State.reset with p := 0xA0#8 })
      (fun t => t.pc == 0x8000#16) = true := by decide

/-- V6. -/
theorem test_bpl_across_top :
    stepsTo (withCode [0x10#8, 0xFF#8] { State.reset with pc := 0xFFFE#16 })
      (fun t => t.pc == 0xFFFF#16) = true := by decide

/-- V6. -/
theorem test_bvc :
    stepsTo (withCode [0x50#8, 0x02#8] State.reset)
      (fun t => t.pc == 0x8004#16) = true := by decide

/-- R222. -/
theorem test_bvs :
    stepsTo (withCode [0x70#8, 0x03#8] { State.reset with pc := 0x800D#16, p := 0x60#8 })
      (fun t => t.pc == 0x8012#16) = true := by decide

/-- V6. -/
theorem test_brk :
    stepsTo (withCode [0x00#8] State.reset)
      (fun t => t.pc == 0x8001#16 && t.sp == 0xFF#8 && t.p == 0x20#8 && t.lastOutcome == .halted) = true := by decide

/-- V6. -/
theorem test_nop :
    stepsTo (withCode [0xEA#8] State.reset)
      (fun t => t.pc == 0x8001#16 && t.p == 0x20#8 && t.lastOutcome == .continuing) = true := by decide

/-- V7. -/
theorem test_clc :
    stepsTo (withCode [0x18#8] { State.reset with p := 0x21#8 })
      (fun t => t.p == 0x20#8) = true := by decide

/-- V7. -/
theorem test_sec :
    stepsTo (withCode [0x38#8] State.reset)
      (fun t => t.p == 0x21#8) = true := by decide

/-- V7. -/
theorem test_cli :
    stepsTo (withCode [0x58#8] { State.reset with p := 0x24#8 })
      (fun t => t.p == 0x20#8) = true := by decide

/-- V7. -/
theorem test_sei :
    stepsTo (withCode [0x78#8] State.reset)
      (fun t => t.p == 0x24#8) = true := by decide

/-- V7. -/
theorem test_cld :
    stepsTo (withCode [0xD8#8] { State.reset with p := 0x28#8 })
      (fun t => t.p == 0x20#8) = true := by decide

/-- V7. -/
theorem test_sed :
    stepsTo (withCode [0xF8#8] State.reset)
      (fun t => t.p == 0x28#8) = true := by decide

/-- V7. -/
theorem test_clv :
    stepsTo (withCode [0xB8#8] { State.reset with p := 0x60#8 })
      (fun t => t.p == 0x20#8) = true := by decide

/-- V1: `JMP (abs)` with a pointer ending in 0xFF, for both values of JMP_IND_PAGE_WRAP. -/
theorem test_jmp_ind_page_wrap :
    stepsTo (withCode [0x6C#8, 0xFF#8, 0x10#8] (withByte 0x1000#16 0x40#8 (withByte 0x1100#16 0x50#8
      { State.reset with params := { Config.defaults with jmpIndPageWrap := true } }))) (fun t => t.pc == 0x4000#16) = true := by decide

/-- V1. -/
theorem test_jmp_ind_no_page_wrap :
    stepsTo (withCode [0x6C#8, 0xFF#8, 0x10#8] (withByte 0x1000#16 0x40#8 (withByte 0x1100#16 0x50#8
      { State.reset with params := { Config.defaults with jmpIndPageWrap := false } }))) (fun t => t.pc == 0x5000#16) = true := by decide

/-! ### Outcomes, host operations, events -/

/-- V8: InvalidOpcode carries PC0 and the byte; the state is as it was, so a further step does the same. -/
theorem test_invalid_opcode :
    (withCode [0x02#8] State.reset).stepOnce =
      { outcome := .error (.invalidOpcode 0x8000#16 0x02#8), state := withCode [0x02#8] State.reset, events := [] } := by decide

/-- V8: zeroed memory halts. -/
theorem test_zeroed_memory_halts :
    State.reset.stepOnce =
      { outcome := .halted, state := { State.reset with pc := 0x8001#16, lastOutcome := .halted }, events := [] } := by decide

/-- V8 with a smaller cap: a jump to itself runs into the step cap. -/
theorem test_step_cap :
    (withCode [0x4C#8, 0x00#8, 0x80#8] { State.reset with params := { Config.defaults with stepCap := 3 } }).execute.outcome =
      .error .stepCapExceeded := by decide

/-- R257: a halt in the step that reaches the cap is reported as Halted (W3's image, cap 2). -/
theorem test_halt_at_the_cap :
    (withCode [0xA9#8, 0x02#8, 0x00#8] { State.reset with params := { Config.defaults with stepCap := 2 } }).execute.outcome =
      .halted := by decide

/-- V8: an image of 0x8001 bytes is too large, one of 0x8000 is accepted. -/
theorem test_load_limit :
    State.reset.load (List.replicate 0x8001 0xEA#8) = none ∧ (State.reset.load (List.replicate 0x8000 0xEA#8)).isSome = true := by
  constructor
  · exact if_neg (by rw [List.length_replicate]; decide)
  · rw [show State.reset.load (List.replicate 0x8000 0xEA#8) = some _ from if_pos (by rw [List.length_replicate]; decide)]; rfl

/-- W6 and V8. -/
theorem test_hexdump_ranges :
    State.reset.memoryHexdump 0x10 0x00 = .rangeError ∧
    State.reset.memoryHexdump 0x00 0x10 = .bytes (List.replicate 16 0x00#8) ∧
    State.reset.memoryHexdump 0xFFF0 0x10000 = .rangeError := by decide

/-- W2. -/
theorem test_reset_status :
    State.reset.snapshot = { a := 0x00#8, x := 0x00#8, y := 0x00#8, sp := 0xFF#8, pc := 0x8000#16, p := 0x20#8 } := by decide

/-- W1. -/
theorem test_memory_round_trip : (State.reset.memWrite 0x1234#16 0xA5#8).memRead 0x1234#16 = 0xA5#8 := by decide

/-- R280: reset keeps the observers and, from any state, gives the reset state (W7). -/
theorem test_reset_keeps_observers :
    (withByte 0x0200#16 0x01#8 { State.reset with a := 0x12#8, observers := { cpu := some 1, memory := none, registers := none } }).doReset =
      { State.reset with observers := { cpu := some 1, memory := none, registers := none } } := by decide

/-- R263: Memory, then CPU, then Registers. -/
theorem test_events_in_order :
    stepsTo (withCode [0x85#8, 0x01#8]
        { State.reset with a := 0x07#8, observers := { cpu := some 1, memory := some 2, registers := some 3 } })
      (fun t => t.events ==
        [.memory 0x0001#16 0x00#8 0x07#8,
         .cpu .sta (.address 0x0001#16) 0x8000#16
           { a := 0x07#8, x := 0x00#8, y := 0x00#8, sp := 0xFF#8, pc := 0x8000#16, p := 0x20#8 }
           { a := 0x07#8, x := 0x00#8, y := 0x00#8, sp := 0xFF#8, pc := 0x8002#16, p := 0x20#8 },
         .registers { a := 0x07#8, x := 0x00#8, y := 0x00#8, sp := 0xFF#8, pc := 0x8002#16, p := 0x20#8 }]) = true := by decide

/-- R61, R106: INC reads its own bytes, then its operand once, then writes it once. -/
theorem test_step_accesses_inc :
    stepAccesses (withCode [0xE6#8, 0x10#8] (withByte 0x0010#16 0x41#8 State.reset)) =
      [.read 0x8000#16 0xE6#8, .read 0x8001#16 0x10#8, .read 0x0010#16 0x41#8, .write 0x0010#16 0x42#8] := by decide

/-- R61, R103, R105: the pointer reads come before the write, and STA does not read its operand. -/
theorem test_step_accesses_sta_indy :
    stepAccesses (withCode [0x91#8, 0xFF#8] (withByte 0x00FF#16 0x34#8 (withByte 0x0000#16 0x12#8 { State.reset with a := 0x05#8 }))) =
      [.read 0x8000#16 0x91#8, .read 0x8001#16 0xFF#8, .read 0x00FF#16 0x34#8, .read 0x0000#16 0x12#8, .write 0x1234#16 0x05#8] := by
  decide

/-! ### The assembler -/

/-- R112: the sizes of a numeric address. -/
theorem test_assemble_sizes :
    assemble 0x8000#16 "LDA $10,Y" = .image [0xB9#8, 0x10#8, 0x00#8] ∧
    assemble 0x8000#16 "JMP $10" = .image [0x4C#8, 0x10#8, 0x00#8] ∧
    assemble 0x8000#16 "LDA $0010" = .image [0xA5#8, 0x10#8] ∧
    assemble 0x8000#16 "STX $1234,Y" = .error { line := 1, kind := .invalidOperand, message := ['S', 'T', 'X'] } := by decide

/-- R111: the operand shapes, with comments and blank lines (R108). -/
theorem test_assemble_shapes :
    assemble 0x8000#16 "; shapes\n\nASL A\nASL ; accumulator\nJMP ($10FF)\nSTA ($40),Y\nLDA ($FE,X)\nSTX $10,Y" =
      .image ([0x0A#8, 0x0A#8, 0x6C#8, 0xFF#8, 0x10#8, 0x91#8, 0x40#8] ++ [0xA1#8, 0xFE#8, 0x96#8, 0x10#8]) := by decide

/-- W8: the branch offsets at the ends of the range. -/
theorem test_branch_offsets :
    branchOffset 0x8004 0x800B = some 0x05#8 ∧ branchOffset 0x800A 0x8004 = some 0xF8#8 ∧
    branchOffset 0x8000 0x8082 = none ∧ branchOffset 0x8000 0x7F82 = some 0x80#8 := by decide

/-- R115: each kind of error with its line. -/
theorem test_assembly_errors :
    assemble 0x8000#16 "NOP\nXYZ" = .error { line := 2, kind := .unknownMnemonic, message := ['X', 'Y', 'Z'] } ∧
    assemble 0x8000#16 "L:\nL:" = .error { line := 2, kind := .duplicateLabel, message := ['L'] } ∧
    assemble 0x8000#16 "LDA #$100" = .error { line := 1, kind := .invalidOperand, message := ['L', 'D', 'A'] } ∧
    assemble 0x8000#16 "BNE $8082" = .error { line := 1, kind := .branchOutOfRange, message := ['B', 'N', 'E'] } := by decide

/-- R111, R115: an operand of no listed shape, with white space in it or not, and an address above 0xFFFF, a label's too. -/
theorem test_invalid_operands :
    assemble 0x8000#16 "NOP A B" = .error { line := 1, kind := .invalidOperand, message := ['A', ' ', 'B'] } ∧
    assemble 0x8000#16 "LDA #$01 $02" = .error { line := 1, kind := .invalidOperand, message := ['$', '0', '1', ' ', '$', '0', '2'] } ∧
    assemble 0x8000#16 "TAX #10" = .error { line := 1, kind := .invalidOperand, message := ['T', 'A', 'X'] } ∧
    assemble 0xFFFD#16 "BNE L\nNOP\nL:" = .error { line := 1, kind := .invalidOperand, message := ['L'] } ∧
    assemble 0xFFFC#16 "BNE L\nNOP\nL:" = .image [0xD0#8, 0x01#8, 0xEA#8] := by decide

/-- U8, U9: texts the spec gives no meaning. -/
theorem test_outside_spec :
    assemble 0x8000#16 "LDA #10" = .outsideSpec 1 .decimalLiteral ∧
    assemble 0x8000#16 ".byte $10" = .outsideSpec 1 .directive := by decide

/-! ### Witnesses: the hypotheses of each statement can be met -/

/-- The state right after reset meets the invariant, and so do the parameters. -/
theorem reset_inv : State.reset.inv = true ∧ Config.defaults.wf = true ∧ Params.wf { Config.defaults with stepCap := 1 } = true := by decide

theorem witness_UndefinedOpcodesEndTheStepUnchanged :
    ((withCode [0x02#8] State.reset).memRead 0x8000#16).toNat ∈ undefinedOpcodes ∧
    ((withCode [0xFF#8] State.reset).memRead 0x8000#16).toNat ∈ undefinedOpcodes := by decide

theorem witness_DecodedBytesAreTheEncoding :
    decode [0x6C#8, 0xFF#8, 0x10#8, 0xEA#8] = .ok (.jmpInd 0x10FF#16) [0xEA#8] ∧ decode [0x00#8] = .ok .brk [] := by decide

theorem witness_CanonicalMemoriesReadingAlikeAreEqual :
    ∃ m n : Memory, m.wf = true ∧ n.wf = true ∧ m ≠ [] ∧ ∀ a : Word, m.read a.toNat = n.read a.toNat :=
  ⟨[(0x10, 0x01#8), (0xFFFF, 0x02#8)], [(0x10, 0x01#8), (0xFFFF, 0x02#8)], by decide, by decide, by decide, fun _ => rfl⟩

/-- Both clauses at the values where they meet. -/
theorem witness_IndirectPointerForBothSettings :
    (0x10FE#16).toNat % 256 ≠ 255 ∧ (0x1100#16).toNat % 256 ≠ 255 ∧ (0x10FF#16).toNat % 256 = 255 ∧ (0xFFFF#16).toNat % 256 = 255 := by
  decide

theorem witness_ReservedBitReadsAsOne :
    State.reset.p.getLsbD 5 = true ∧ stepsTo (withCode [0x28#8] State.reset) (fun t => t.p.getLsbD 5) = true := by decide

theorem witness_LoadsWriteTheirRegister :
    (Instr.ldaIndy 0xFF#8).mnemonic = .lda ∧ (Instr.ldxZpy 0xFF#8).mnemonic = .ldx ∧ (Instr.ldyAbsx 0xFFFF#16).mnemonic = .ldy := by decide

theorem witness_StoresWriteTheByteAtEA :
    (Instr.staAbsx 0xFFFF#16).mnemonic = .sta ∧ (Instr.stxZpy 0xFF#8).mnemonic = .stx ∧ (Instr.styZpx 0xFF#8).mnemonic = .sty := by decide

theorem witness_AdcAddsWithCarry : (Instr.adcImm 0x50#8).mnemonic = .adc ∧ (Instr.adcIndy 0xFF#8).mnemonic = .adc := by decide

theorem witness_SbcSubtractsWithBorrow : (Instr.sbcImm 0x05#8).mnemonic = .sbc ∧ (Instr.sbcIndx 0xFF#8).mnemonic = .sbc := by decide

/-- ADC at 128 and at -129, SBC at -129, and one of each inside the range (V4). -/
theorem witness_OverflowFlagIsSignedOverflow :
    (operandValue (.imm 0x01#8) State.reset = some 0x01#8) ∧
    stepsTo (withCode [0x69#8, 0x01#8] { State.reset with a := 0x7F#8 }) (fun t => t.flag .v) = true ∧
    stepsTo (withCode [0x69#8, 0xFF#8] { State.reset with a := 0x80#8 }) (fun t => t.flag .v) = true ∧
    stepsTo (withCode [0xE9#8, 0x01#8] { State.reset with a := 0x80#8, p := 0x21#8 }) (fun t => t.flag .v) = true ∧
    stepsTo (withCode [0x69#8, 0x01#8] { State.reset with a := 0x7E#8 }) (fun t => !t.flag .v) = true ∧
    stepsTo (withCode [0xE9#8, 0x03#8] { State.reset with a := 0x05#8, p := 0x21#8 }) (fun t => !t.flag .v) = true := by decide

theorem witness_DecimalFlagDoesNotAffectAddAndSubtract :
    (Instr.adcImm 0x01#8).mnemonic = .adc ∧ (Instr.sbcAbs 0x0200#16).mnemonic = .sbc := by decide

theorem witness_LogicOperationsOnA :
    (Instr.andImm 0x0F#8).mnemonic = .and ∧ (Instr.oraZpx 0xFF#8).mnemonic = .ora ∧ (Instr.eorAbsy 0xFFFF#16).mnemonic = .eor := by decide

theorem witness_BitTestsAAgainstM : (Instr.bitZp 0x10#8).mnemonic = .bit ∧ (Instr.bitAbs 0x0200#16).mnemonic = .bit := by decide

theorem witness_ComparesSetZNCOnly :
    ((Instr.cmpImm 0x80#8).mnemonic = .cmp ∧ State.reset.a = 0x00#8) ∧ ((Instr.cpxZp 0x20#8).mnemonic = .cpx ∧ State.reset.x = 0x00#8) ∧
    ((Instr.cpyAbs 0x0200#16).mnemonic = .cpy ∧ State.reset.y = 0x00#8) := by decide

theorem witness_IncAndDecOfMemory : (Instr.incAbsx 0xFFFF#16).mnemonic = .inc ∧ (Instr.decZpx 0xFF#8).mnemonic = .dec := by decide

/-- Both kinds of form of each of the four. -/
theorem witness_ShiftsAndRotates :
    (Instr.aslAcc.mnemonic = .asl ∧ Instr.aslAcc.mode = .acc) ∧ ((Instr.lsrZp 0x20#8).mnemonic = .lsr ∧ (Instr.lsrZp 0x20#8).mode ≠ .acc) ∧
    (Instr.rolAcc.mnemonic = .rol ∧ Instr.rolAcc.mode = .acc) ∧
    ((Instr.rorAbsx 0xFFFF#16).mnemonic = .ror ∧ (Instr.rorAbsx 0xFFFF#16).mode ≠ .acc) := by decide

theorem witness_JmpSetsPc : (Instr.jmpAbs 0x1234#16).mnemonic = .jmp ∧ (Instr.jmpInd 0x10FF#16).mnemonic = .jmp := by decide

/-- Each of the eight, and both answers of a test. -/
theorem witness_BranchesTestOneFlag :
    branchTest (Instr.bcc 0x10#8).mnemonic = some (.c, false) ∧ branchTest (Instr.bcs 0x10#8).mnemonic = some (.c, true) ∧
    branchTest (Instr.beq 0x80#8).mnemonic = some (.z, true) ∧ branchTest (Instr.bne 0x05#8).mnemonic = some (.z, false) ∧
    branchTest (Instr.bmi 0xFE#8).mnemonic = some (.n, true) ∧ branchTest (Instr.bpl 0xFF#8).mnemonic = some (.n, false) ∧
    branchTest (Instr.bvc 0x02#8).mnemonic = some (.v, false) ∧ branchTest (Instr.bvs 0x03#8).mnemonic = some (.v, true) ∧
    State.reset.flag .c = false ∧ State.flag { State.reset with p := 0x21#8 } .c = true := by decide

theorem witness_BrkHalts : State.reset.memRead State.reset.pc = 0x00#8 := by decide

theorem witness_NopOnlyAdvancesPc : (withCode [0xEA#8] State.reset).memRead 0x8000#16 = 0xEA#8 := by decide

/-- An instruction outside each flag's writers, and each forced flag. -/
theorem witness_FlagsChangeOnlyUnderTheirWriters :
    (∃ t, exec .nop State.reset = .next t) ∧ (∃ t, exec .lsrAcc State.reset = .next t) ∧ (Instr.nop.mnemonic ∉ flagWriters .n) ∧ (Instr.php.mnemonic ∉ flagWriters .b) ∧
    ((Instr.ldaImm 0x00#8).mnemonic ∉ flagWriters .c) ∧ forcedFlag Instr.lsrAcc.mnemonic = some (.n, false) ∧
    forcedFlag Instr.sed.mnemonic = some (.d, true) ∧ forcedFlag Instr.clv.mnemonic = some (.v, false) :=
  ⟨⟨_, rfl⟩, ⟨_, rfl⟩, by decide⟩

/-- A next state in which each of A, X, Y, SP and PC has changed. -/
theorem witness_RegistersChangeOnlyUnderTheirWriters :
    (∃ t, exec (.ldaImm 0x02#8) State.reset = .next t ∧ t.a ≠ State.reset.a) ∧
    (∃ t, exec .tsx State.reset = .next t ∧ t.x ≠ State.reset.x) ∧ (∃ t, exec .iny State.reset = .next t ∧ t.y ≠ State.reset.y) ∧
    (∃ t, exec .pha State.reset = .next t ∧ t.sp ≠ State.reset.sp) ∧ (∃ t, exec (.bcc 0x10#8) State.reset = .next t ∧ t.pc ≠ State.reset.pc) :=
  ⟨⟨_, rfl, by decide⟩, ⟨_, rfl, by decide⟩, ⟨_, rfl, by decide⟩, ⟨_, rfl, by decide⟩, ⟨_, rfl, by decide⟩⟩

theorem witness_MemoryChangesOnlyUnderStores :
    (∃ t, exec (.ldaImm 0x02#8) State.reset = .next t) ∧ (Instr.ldaImm 0x02#8).mnemonic ∉ storingMnemonics ∧
    (∃ t, exec .aslAcc State.reset = .next t) ∧ Instr.aslAcc.mode = .acc :=
  ⟨⟨_, rfl⟩, by decide, ⟨_, rfl⟩, by decide⟩

theorem witness_AccessesAccountForMemory :
    (∃ t, exec (.incZp 0x10#8) State.reset = .next t) ∧
    ((Instr.ldaIndy 0xFF#8).mnemonic ∈ [Mnemonic.lda, .ldx, .ldy, .adc, .sbc, .and, .ora, .eor, .bit, .cmp, .cpx, .cpy] ∧
      (Instr.ldaIndy 0xFF#8).mode ≠ .imm) ∧
    fetch (withCode [0x02#8] State.reset) = none :=
  ⟨⟨_, rfl⟩, by decide, by decide⟩

/-- The three clauses at neighbouring opcodes. -/
theorem witness_OpcodeDecidesTheOutcome :
    ((withCode [0x02#8] State.reset).memRead 0x8000#16).toNat ∈ undefinedOpcodes ∧ State.reset.memRead State.reset.pc = 0x00#8 ∧
    ((withCode [0x01#8] State.reset).memRead 0x8000#16).toNat ∉ undefinedOpcodes ∧
    (withCode [0x01#8] State.reset).memRead 0x8000#16 ≠ 0x00#8 := by decide

/-- A branch, whose meaning depends on the advanced PC, at the top of memory (V6). -/
theorem witness_StepRunsTheDecodedInstruction :
    decode [0x10#8, 0xFF#8, 0x00#8] = .ok (.bpl 0xFF#8) [0x00#8] ∧
    ∃ u, exec (.bpl 0xFF#8) { State.reset with pc := 0xFFFE#16 + BitVec.ofNat 16 (encode (.bpl 0xFF#8)).length } = .next u :=
  ⟨by decide, _, rfl⟩

theorem witness_InvariantKeptByEveryStep :
    (withCode [0x28#8] State.reset).inv = true ∧ stepsTo (withCode [0x28#8] State.reset) (fun t => t.inv) = true := by decide

/-- A step with an event on one channel and none on the others. -/
theorem witness_ObserversChangeNoArchitecturalState :
    stepsTo { State.reset with observers := { cpu := some 1, memory := none, registers := none } }
      (fun t => t.events.length == 1) = true := by decide

/-- A store with the memory channel observed and not observed, and an instruction that stores nothing. -/
theorem witness_StepEventsInOrder :
    fetch (withCode [0x85#8, 0x01#8] State.reset) = some (.staZp 0x01#8) ∧ (Instr.staZp 0x01#8).mnemonic ∈ storingMnemonics ∧
    (Instr.staZp 0x01#8).mode ≠ .acc ∧ State.reset.observers.memory = none ∧
    stepsTo (withCode [0x85#8, 0x01#8] { State.reset with observers := { cpu := none, memory := some 2, registers := none } })
      (fun t => t.events.length == 1) = true ∧ Instr.nop.mnemonic ∉ storingMnemonics := by decide

/-- Both clauses where they meet: 0x8000 and 0x8001 bytes at 0x8000. -/
theorem witness_LoadCopiesTheImage :
    State.reset.params.baseAddr.toNat + (List.replicate 0x8000 0xEA#8).length ≤ 0x10000 ∧
    0x10000 < State.reset.params.baseAddr.toNat + (List.replicate 0x8001 0xEA#8).length := by
  rw [List.length_replicate, List.length_replicate]; decide

/-- A state whose step is Continuing, with a given byte after its NOP and a given cap. -/
def nopThen (v : Byte) (cap : Nat) : State :=
  withCode [0xEA#8, v] { State.reset with params := { Config.defaults with stepCap := cap } }

/-- The three clauses: one Continuing step, then a halt or an error below the cap; the cap reached. -/
theorem witness_ExecuteRunsUntilHaltErrorOrCap :
    (∃ t u, Continues 1 (nopThen 0x00#8 2) t ∧ 1 < (nopThen 0x00#8 2).params.stepCap ∧ step t = .next u ∧ u.lastOutcome = .halted) ∧
    (∃ t f, Continues 1 (nopThen 0x02#8 2) t ∧ 1 < (nopThen 0x02#8 2).params.stepCap ∧ step t = .fault f) ∧
    (∃ t, Continues 1 (nopThen 0x00#8 1) t ∧ 1 = (nopThen 0x00#8 1).params.stepCap) :=
  ⟨⟨_, _, ⟨_, rfl, rfl, rfl⟩, by decide, rfl, rfl⟩, ⟨_, _, ⟨_, rfl, rfl, rfl⟩, by decide, rfl⟩, ⟨_, ⟨_, rfl, rfl, rfl⟩, rfl⟩⟩

theorem witness_ExecuteEndsInOneOfThreeWays : (nopThen 0x02#8 2).inv = true := by decide

theorem witness_HexdumpGivesTheBytesOfARange :
    State.reset.memoryHexdump 0xFFFE 0xFFFF = .bytes [0x00#8] ∧ State.reset.memoryHexdump 0x0010 0x0010 = .rangeError ∧
    State.reset.memoryHexdump (-1) 0x0010 = .rangeError := by decide

/-- Both ends of the range, and one past each. -/
theorem witness_AssembledBranchesReachTheirTarget :
    branchOffset 0x8000 0x8081 = some 0x7F#8 ∧ branchOffset 0x8000 0x7F82 = some 0x80#8 ∧ branchOffset 0x8000 0x8082 = none ∧
    branchOffset 0x8000 0x7F81 = none ∧ (0x8002#16 : Word) = BitVec.ofNat 16 (0x8000 + 2) := by decide

/-- One- and two-byte operands at the ends of their ranges and one past them, and a branch. -/
theorem witness_EmittedBytesDecodeToTheirInstruction :
    hasMode .lda .zp = true ∧ hasMode .jmp .ind = true ∧ hasMode .bne .rel = true ∧ hasMode .nop .imp = true ∧
    (∃ b, emitOperand 0x8000 .zp 0xFF = .ok b) ∧ (∃ b, emitOperand 0x8000 .ind 0xFFFF = .ok b) ∧
    (∃ b, emitOperand 0x8000 .rel 0x8081 = .ok b) ∧ (∃ b, emitOperand 0x8000 .imp 0 = .ok b) ∧
    (Mode.operandBytes .rel ≠ 0 ∧ 65536 ≤ 0x10000) ∧ (Mode.operandBytes .zp = 1 ∧ Mode.zp ≠ .rel ∧ 256 ≤ 0x100) :=
  ⟨by decide, by decide, by decide, by decide, ⟨_, rfl⟩, ⟨_, rfl⟩, ⟨_, rfl⟩, ⟨_, rfl⟩, by decide, by decide⟩

end Sys2Proof.Tests
end

section
/-! PROOFS. The invariant of the state: what each state operation does to it, then every meaning, then a step. -/

namespace Sys2Proof.Machine

/-! ### The invariant under the state operations

`State.inv` reads memory, P and the parameters alone, so a write of a register, of PC, of the outcome or of the events leaves it the
same by definition. -/

theorem State.inv_iff (s : State) :
    s.inv = true ↔ s.mem.wf = true ∧ s.p[5] = true ∧ getFlag s.p .b = false ∧ s.params.wf = true := by
  simp [State.inv, and_assoc]

theorem State.setA_inv {s : State} (v : Byte) (h : s.inv = true) : (s.setA v).inv = true := h

theorem State.setPc_inv {s : State} (v : Word) (h : s.inv = true) : (s.setPc v).inv = true := h

theorem State.pull_inv {s : State} (h : s.inv = true) : s.pull.2.inv = true := h

theorem State.pullWord_inv {s : State} (h : s.inv = true) : s.pullWord.2.inv = true := h

/-- A new P that keeps bit 5 (R33) and B (R32) keeps the invariant. -/
theorem State.setP_inv {s : State} {q : Byte} (h : s.inv = true) (h5 : q[5] = s.p[5])
    (hb : getFlag q .b = getFlag s.p .b) : (s.setP q).inv = true := by
  rw [State.inv_iff] at h ⊢
  obtain ⟨hmem, hfive, hB, hparams⟩ := h
  exact ⟨hmem, h5.trans hfive, hb.trans hB, hparams⟩

theorem State.setFlag_inv {s : State} {f : Flag} (on : Bool) (hf : f ≠ .b) (h : s.inv = true) :
    (s.setFlag f on).inv = true :=
  State.setP_inv h (putFlag_bit_five ..) (by rw [getFlag_putFlag, if_neg hf.symm])

theorem State.setZN_inv {s : State} (v : Byte) (h : s.inv = true) : (s.setZN v).inv = true :=
  State.setP_inv h (putZN_bit_five ..) (by simp)

/-- `PLoad(v)` (R34) sets bit 5, whatever it was, and keeps B. -/
theorem State.pLoad_inv {s : State} (v : Byte) (h : s.inv = true) : (s.pLoad v).inv = true := by
  have h5 : s.p[5] = true := ((State.inv_iff s).1 h).2.1
  exact State.setP_inv h ((pLoadOf_bit_five ..).trans h5.symm) (by simp)

theorem State.memWrite_inv {s : State} (ea : Word) (v : Byte) (h : s.inv = true) : (s.memWrite ea v).inv = true := by
  rw [State.inv_iff] at h ⊢
  exact ⟨State.memWrite_wf ea v h.1, h.2⟩

theorem State.push_inv {s : State} (v : Byte) (h : s.inv = true) : (s.push v).inv = true :=
  State.memWrite_inv (stackAddr s.sp) v h

/-! ### The invariant under the meanings and a step -/

theorem addToA_inv {s : State} (m : Byte) (h : s.inv = true) : (addToA m s).inv = true :=
  State.setP_inv (State.setA_inv _ h) (addFlags_bit_five ..) (by simp)

theorem setP_cmpFlags_inv {s : State} (reg m : Byte) (h : s.inv = true) : (s.setP (cmpFlags s.p reg m)).inv = true :=
  State.setP_inv h (cmpFlags_bit_five ..) (by simp)

theorem setP_bitFlags_inv {s : State} (m : Byte) (h : s.inv = true) : (s.setP (bitFlags s.p s.a m)).inv = true :=
  State.setP_inv h (bitFlags_bit_five ..) (by simp)

theorem setP_shiftFlags_inv {s : State} (r : Shifted) (h : s.inv = true) : (s.setP (shiftFlags s.p r)).inv = true :=
  State.setP_inv h (shiftFlags_bit_five ..) (by simp)

/-- Every meaning answers a next state with the invariant; the cases are grouped by what the instruction writes of memory and P. -/
theorem exec_inv (i : Instr) {s : State} (h : s.inv = true) : ∃ t, exec i s = .next t ∧ t.inv = true := by
  cases i with
  -- neither memory nor P
  | txs | jmpAbs | jmpInd | rts | brk | nop => exact ⟨_, rfl, h⟩
  | bcc | bcs | beq | bne | bmi | bpl | bvc | bvs => exact ⟨_, branchIf_eq .., h⟩
  -- Z and N
  | ldaImm | ldaZp | ldaZpx | ldaAbs | ldaAbsx | ldaAbsy | ldaIndx | ldaIndy
  | ldxImm | ldxZp | ldxZpy | ldxAbs | ldxAbsy | ldyImm | ldyZp | ldyZpx | ldyAbs | ldyAbsx
  | tax | tay | txa | tya | tsx | pla | inx | iny | dex | dey
  | andImm | andZp | andZpx | andAbs | andAbsx | andAbsy | andIndx | andIndy
  | oraImm | oraZp | oraZpx | oraAbs | oraAbsx | oraAbsy | oraIndx | oraIndy
  | eorImm | eorZp | eorZpx | eorAbs | eorAbsx | eorAbsy | eorIndx | eorIndy =>
    exact ⟨_, rfl, State.setZN_inv _ h⟩
  -- C, V, Z and N
  | adcImm | adcZp | adcZpx | adcAbs | adcAbsx | adcAbsy | adcIndx | adcIndy
  | sbcImm | sbcZp | sbcZpx | sbcAbs | sbcAbsx | sbcAbsy | sbcIndx | sbcIndy =>
    exact ⟨_, rfl, addToA_inv _ h⟩
  -- C, Z and N
  | cmpImm | cmpZp | cmpZpx | cmpAbs | cmpAbsx | cmpAbsy | cmpIndx | cmpIndy
  | cpxImm | cpxZp | cpxAbs | cpyImm | cpyZp | cpyAbs =>
    exact ⟨_, rfl, setP_cmpFlags_inv _ _ h⟩
  | aslAcc | lsrAcc | rolAcc | rorAcc => exact ⟨_, rfl, State.setA_inv _ (setP_shiftFlags_inv _ h)⟩
  -- V, Z and N
  | bitZp | bitAbs => exact ⟨_, rfl, setP_bitFlags_inv _ h⟩
  -- one flag
  | clc | sec | cli | sei | cld | sed | clv => exact ⟨_, rfl, State.setFlag_inv _ (by decide) h⟩
  -- P as a byte
  | plp => exact ⟨_, rfl, State.pLoad_inv _ (State.pull_inv h)⟩
  | rti => exact ⟨_, rfl, State.setPc_inv _ (State.pullWord_inv (State.pLoad_inv _ (State.pull_inv h)))⟩
  -- memory
  | staZp | staZpx | staAbs | staAbsx | staAbsy | staIndx | staIndy
  | stxZp | stxZpy | stxAbs | styZp | styZpx | styAbs =>
    exact ⟨_, rfl, State.memWrite_inv _ _ h⟩
  | pha | php => exact ⟨_, rfl, State.push_inv _ h⟩
  | jsr => exact ⟨_, rfl, State.push_inv _ (State.push_inv _ h)⟩
  -- memory, with Z and N, and C where it shifts
  | incZp | incZpx | incAbs | incAbsx | decZp | decZpx | decAbs | decAbsx =>
    exact ⟨_, rfl, State.setZN_inv _ (State.memWrite_inv _ _ h)⟩
  | aslZp | aslZpx | aslAbs | aslAbsx | lsrZp | lsrZpx | lsrAbs | lsrAbsx
  | rolZp | rolZpx | rolAbs | rolAbsx | rorZp | rorZpx | rorAbs | rorAbsx =>
    exact ⟨_, rfl, State.memWrite_inv _ _ (setP_shiftFlags_inv _ h)⟩

/-- A step adds to its meaning only the PC advance and the events, which the invariant does not read (R254, R263). -/
theorem step_inv {s t : State} (h : s.inv = true) (hstep : step s = .next t) : t.inv = true := by
  obtain ⟨i, u, -, hu, rfl⟩ := step_cases hstep
  obtain ⟨u', hu', hinv⟩ := exec_inv (s := startStep i s) i h
  obtain rfl : u' = u := Host.Outcome.next.inj (hu'.symm.trans hu)
  exact hinv

theorem resetWith_inv (q : Params) : (State.resetWith q).inv = q.wf := by
  rw [State.inv, Memory.wf_reset]
  simp [State.resetWith, getFlag, Flag.bit]

/-! ### The obligations -/

/-- Settles O47: the invariant of a state is kept by the operations its step is made of. -/
theorem invariantKeptByEveryStep : Obligations.InvariantKeptByEveryStep := by
  unfold Obligations.InvariantKeptByEveryStep
  exact fun _ _ => step_inv

/-- Settles O48: of the invariant, reset leaves open only that `STEP_CAP` is at least 1. -/
theorem invariantHoldsAtReset : Obligations.InvariantHoldsAtReset := by
  unfold Obligations.InvariantHoldsAtReset
  have hreset : ∀ q : Params, q.wf = true → (State.resetWith q).inv = true := fun q hq => (resetWith_inv q).trans hq
  exact ⟨hreset Config.defaults (by decide), hreset⟩

end Sys2Proof.Machine
end

section
/-! PROOFS. The flags and the registers: P as a byte, which of them each meaning writes, and the statements of P, of BRK and of reset that
follow. -/

namespace Sys2Proof.Machine

open Sys2Proof.Spec

/-! ### P as a byte -/

/-- A byte in numbers, by its seven flags and bit 5 (R26). -/
theorem byte_toNat_eq_flags (p : Byte) :
    p.toNat = 128 * (getFlag p .n).toNat + 64 * (getFlag p .v).toNat + 32 * p[5].toNat + 16 * (getFlag p .b).toNat +
      8 * (getFlag p .d).toNat + 4 * (getFlag p .i).toNat + 2 * (getFlag p .z).toNat + (getFlag p .c).toNat := by
  have hp := p.isLt
  simp only [getFlag, Flag.bit, ← BitVec.getLsbD_eq_getElem, BitVec.getLsbD, Nat.toNat_testBit]
  omega

theorem loadedFrom_pLoadOf (p v : Byte) : LoadedFrom p (pLoadOf p v) v :=
  ⟨fun _ hf => (getFlag_pLoadOf ..).trans (if_neg hf), (getFlag_pLoadOf ..).trans (if_pos rfl), pLoadOf_bit_five ..⟩

/-- The bits PHP forces to 1 (R157) are bit 5 and the one of B. -/
theorem getFlag_or_0x30 (p : Byte) {f : Flag} (hf : f ≠ .b) : getFlag (p ||| 0x30#8) f = getFlag p f := by
  cases f <;> simp [getFlag, Flag.bit] at hf ⊢

/-- Loading the byte PHP pushes (R157, R159) gives every flag back, B because a load leaves it. -/
theorem getFlag_pLoadOf_pushed (p : Byte) (f : Flag) : getFlag (pLoadOf p (pByteOf p ||| 0x30#8)) f = getFlag p f := by
  obtain ⟨hloaded, hb, -⟩ := loadedFrom_pLoadOf p (pByteOf p ||| 0x30#8)
  by_cases hf : f = .b
  · rw [hf, hb]
  · exact (hloaded f hf).trans ((getFlag_or_0x30 _ hf).trans (getFlag_pByteOf ..))

/-- A pull after a push (R58): the byte, and SP as before the push, when it wraps too. -/
@[simp] theorem State.pull_push (s : State) (v : Byte) : (s.push v).pull = (v, (s.push v).setSp s.sp) := by
  simp [State.pull_eq]

/-! ### ADC and SBC and the D flag -/

theorem addFlags_putFlag_d (p a m : Byte) (c on : Bool) :
    addFlags (putFlag p .d on) a m c = putFlag (addFlags p a m c) .d on :=
  byte_ext_of_flags (fun f => by cases f <;> simp) (by simp)

/-- The addition reads of P the carry alone, so writing D before it or after it is the same (R170). -/
theorem addToA_setFlag_d (m : Byte) (s : State) (on : Bool) :
    addToA m (s.setFlag .d on) = (addToA m s).setFlag .d on := by
  have hc : (s.setFlag .d on).flag .c = s.flag .c := by simp [State.flag]
  rw [addToA_eq, addToA_eq, hc]
  exact congrArg _ (addFlags_putFlag_d ..)

/-! ### The rows of R87, and a step that fetches one byte -/

/-- A mnemonic has exactly the forms of its row of R87. -/
theorem forms_opcodeRow (m : Mnemonic) : Forms m (opcodeRow m) := by
  refine ⟨fun i hi => ?_, opcodeRow_decodes m⟩
  subst hi
  obtain ⟨b, hb, he⟩ := encode_in_row i
  exact ⟨b, _, hb, he⟩

/-- The opcode byte of a cell without operand bytes fetches that cell's instruction (R81, R84). -/
theorem fetch_of_op0 {s : State} {i : Instr} (h : opEntry (s.memRead s.pc) = .op0 i) : fetch s = some i := by
  simp [fetch, fetchBytes, h, OpEntry.operandBytes, decode]

/-- A step reads neither the outcome nor the events of the step before (R37). -/
theorem step_outcome_events (s : State) (o : StepOutcome) (ev : List DebugEvent) :
    step { s with lastOutcome := o, events := ev } = step s := by
  have hfetch : fetch { s with lastOutcome := o, events := ev } = fetch s := rfl
  rw [step, step, hfetch]
  cases fetch s with
  | none => rfl
  | some i => rfl

/-! ### Which flags and registers a meaning writes -/

/-- From `p` to `q` no flag outside `l` changes, and bit 5 is not cleared. -/
def WritesOnlyFlags (l : List Flag) (p q : Byte) : Prop :=
  (∀ f, f ∉ l → getFlag q f = getFlag p f) ∧ (p[5] = true → q[5] = true)

theorem writesOnlyFlags_refl (p : Byte) : WritesOnlyFlags [] p p := ⟨fun _ _ => rfl, id⟩

theorem writesOnlyFlags_putFlag (p : Byte) (f : Flag) (on : Bool) : WritesOnlyFlags [f] p (putFlag p f on) :=
  ⟨by simp +contextual, by simp⟩

theorem writesOnlyFlags_putZN (p v : Byte) : WritesOnlyFlags [.z, .n] p (putZN p v) :=
  ⟨by simp +contextual, by simp⟩

theorem writesOnlyFlags_addFlags (p a m : Byte) (c : Bool) :
    WritesOnlyFlags [.c, .v, .z, .n] p (addFlags p a m c) :=
  ⟨by simp +contextual, by simp⟩

theorem writesOnlyFlags_cmpFlags (p reg m : Byte) : WritesOnlyFlags [.c, .z, .n] p (cmpFlags p reg m) :=
  ⟨by simp +contextual, by simp⟩

theorem writesOnlyFlags_bitFlags (p a m : Byte) : WritesOnlyFlags [.z, .n, .v] p (bitFlags p a m) :=
  ⟨by simp +contextual, by simp⟩

theorem writesOnlyFlags_shiftFlags (p : Byte) (r : Shifted) : WritesOnlyFlags [.c, .z, .n] p (shiftFlags p r) :=
  ⟨by simp +contextual, by simp⟩

/-- `PLoad` (R34) writes every flag but B. -/
theorem writesOnlyFlags_pLoadOf (p v : Byte) : WritesOnlyFlags [.c, .z, .i, .d, .v, .n] p (pLoadOf p v) := by
  refine ⟨fun f hf => ?_, by simp⟩
  obtain rfl : f = .b := by cases f <;> simp at hf ⊢
  simp

/-- The flags a meaning writes are among those its mnemonic has in R35; the cases are grouped by how P is written, `l` being read off it. -/
theorem exec_writesOnlyFlags {i : Instr} {s t : State} (h : exec i s = .next t) :
    ∃ l, WritesOnlyFlags l s.p t.p ∧ ∀ f ∈ l, i.mnemonic ∈ flagWriters f := by
  cases i with
  -- no flag
  | staZp | staZpx | staAbs | staAbsx | staAbsy | staIndx | staIndy
  | stxZp | stxZpy | stxAbs | styZp | styZpx | styAbs | txs | pha | php | jmpAbs | jmpInd | jsr | rts | brk | nop =>
    obtain rfl := Host.Outcome.next.inj h
    exact ⟨_, writesOnlyFlags_refl .., of_decide_eq_true rfl⟩
  | bcc | bcs | beq | bne | bmi | bpl | bvc | bvs =>
    obtain rfl := Host.Outcome.next.inj ((branchIf_eq ..).symm.trans h)
    exact ⟨_, writesOnlyFlags_refl .., of_decide_eq_true rfl⟩
  -- Z and N
  | ldaImm | ldaZp | ldaZpx | ldaAbs | ldaAbsx | ldaAbsy | ldaIndx | ldaIndy
  | ldxImm | ldxZp | ldxZpy | ldxAbs | ldxAbsy | ldyImm | ldyZp | ldyZpx | ldyAbs | ldyAbsx
  | tax | tay | txa | tya | tsx | pla | inx | iny | dex | dey
  | incZp | incZpx | incAbs | incAbsx | decZp | decZpx | decAbs | decAbsx
  | andImm | andZp | andZpx | andAbs | andAbsx | andAbsy | andIndx | andIndy
  | oraImm | oraZp | oraZpx | oraAbs | oraAbsx | oraAbsy | oraIndx | oraIndy
  | eorImm | eorZp | eorZpx | eorAbs | eorAbsx | eorAbsy | eorIndx | eorIndy =>
    obtain rfl := Host.Outcome.next.inj h
    exact ⟨_, writesOnlyFlags_putZN .., of_decide_eq_true rfl⟩
  -- C, V, Z and N
  | adcImm | adcZp | adcZpx | adcAbs | adcAbsx | adcAbsy | adcIndx | adcIndy
  | sbcImm | sbcZp | sbcZpx | sbcAbs | sbcAbsx | sbcAbsy | sbcIndx | sbcIndy =>
    obtain rfl := Host.Outcome.next.inj h
    exact ⟨_, writesOnlyFlags_addFlags .., of_decide_eq_true rfl⟩
  -- C, Z and N
  | cmpImm | cmpZp | cmpZpx | cmpAbs | cmpAbsx | cmpAbsy | cmpIndx | cmpIndy
  | cpxImm | cpxZp | cpxAbs | cpyImm | cpyZp | cpyAbs =>
    obtain rfl := Host.Outcome.next.inj h
    exact ⟨_, writesOnlyFlags_cmpFlags .., of_decide_eq_true rfl⟩
  | aslAcc | aslZp | aslZpx | aslAbs | aslAbsx | lsrAcc | lsrZp | lsrZpx | lsrAbs | lsrAbsx
  | rolAcc | rolZp | rolZpx | rolAbs | rolAbsx | rorAcc | rorZp | rorZpx | rorAbs | rorAbsx =>
    obtain rfl := Host.Outcome.next.inj h
    exact ⟨_, writesOnlyFlags_shiftFlags .., of_decide_eq_true rfl⟩
  -- V, Z and N
  | bitZp | bitAbs =>
    obtain rfl := Host.Outcome.next.inj h
    exact ⟨_, writesOnlyFlags_bitFlags .., of_decide_eq_true rfl⟩
  -- one flag
  | clc | sec | cli | sei | cld | sed | clv =>
    obtain rfl := Host.Outcome.next.inj h
    exact ⟨_, writesOnlyFlags_putFlag .., of_decide_eq_true rfl⟩
  -- every flag but B
  | plp | rti =>
    obtain rfl := Host.Outcome.next.inj h
    exact ⟨_, writesOnlyFlags_pLoadOf .., of_decide_eq_true rfl⟩

/-- The entries "0" and "1" of R35: LSR moves 0 into bit 7, and the seven flag instructions. -/
theorem exec_forcedFlag {i : Instr} {s t : State} {f : Flag} {v : Bool} (h : exec i s = .next t)
    (hf : forcedFlag i.mnemonic = some (f, v)) : t.flag f = v := by
  cases i with
  | lsrAcc | lsrZp | lsrZpx | lsrAbs | lsrAbsx =>
    obtain rfl := Host.Outcome.next.inj h
    obtain ⟨rfl, rfl⟩ := Prod.mk.inj (Option.some.inj hf)
    exact (getFlag_shiftFlags ..).trans (by simp [lsrByte])
  | clc | sec | cli | sei | cld | sed | clv =>
    obtain rfl := Host.Outcome.next.inj h
    obtain ⟨rfl, rfl⟩ := Prod.mk.inj (Option.some.inj hf)
    exact (getFlag_putFlag ..).trans (if_pos rfl)
  | _ => cases hf

/-- A step adds to its meaning only the PC advance and the events (R254, R263), so it clears bit 5 no more than the meaning does. -/
theorem step_keeps_bit_five {s t : State} (hstep : step s = .next t) (h : s.p[5] = true) : t.p[5] = true := by
  obtain ⟨i, u, -, hu, rfl⟩ := step_cases hstep
  obtain ⟨l, ⟨-, hfive⟩, -⟩ := exec_writesOnlyFlags hu
  exact hfive h

/-! ### The obligations -/

/-- Settles O40: every flag a meaning writes has its mnemonic among the flag's writers, and each forced entry is what its meaning writes. -/
theorem flagsChangeOnlyUnderTheirWriters : Obligations.FlagsChangeOnlyUnderTheirWriters := by
  unfold Obligations.FlagsChangeOnlyUnderTheirWriters
  intro i s t h
  obtain ⟨l, ⟨hkept, -⟩, hwriters⟩ := exec_writesOnlyFlags h
  exact ⟨fun f hf => hkept f fun hl => hf (hwriters f hl), fun _ _ => exec_forcedFlag h⟩

/-- Settles O41: by what each meaning writes, `absurd rfl` saying of a register that it is as before. -/
theorem registersChangeOnlyUnderTheirWriters : Obligations.RegistersChangeOnlyUnderTheirWriters := by
  unfold Obligations.RegistersChangeOnlyUnderTheirWriters
  intro i s t h
  cases i with
  -- no register
  | staZp | staZpx | staAbs | staAbsx | staAbsy | staIndx | staIndy
  | stxZp | stxZpy | stxAbs | styZp | styZpx | styAbs
  | bitZp | bitAbs | cmpImm | cmpZp | cmpZpx | cmpAbs | cmpAbsx | cmpAbsy | cmpIndx | cmpIndy
  | cpxImm | cpxZp | cpxAbs | cpyImm | cpyZp | cpyAbs
  | incZp | incZpx | incAbs | incAbsx | decZp | decZpx | decAbs | decAbsx
  | aslZp | aslZpx | aslAbs | aslAbsx | lsrZp | lsrZpx | lsrAbs | lsrAbsx
  | rolZp | rolZpx | rolAbs | rolAbsx | rorZp | rorZpx | rorAbs | rorAbsx
  | brk | nop | clc | sec | cli | sei | cld | sed | clv =>
    obtain rfl := Host.Outcome.next.inj h
    exact ⟨absurd rfl, absurd rfl, absurd rfl, absurd rfl, absurd rfl, rfl, rfl⟩
  -- A
  | ldaImm | ldaZp | ldaZpx | ldaAbs | ldaAbsx | ldaAbsy | ldaIndx | ldaIndy | txa | tya
  | adcImm | adcZp | adcZpx | adcAbs | adcAbsx | adcAbsy | adcIndx | adcIndy
  | sbcImm | sbcZp | sbcZpx | sbcAbs | sbcAbsx | sbcAbsy | sbcIndx | sbcIndy
  | andImm | andZp | andZpx | andAbs | andAbsx | andAbsy | andIndx | andIndy
  | oraImm | oraZp | oraZpx | oraAbs | oraAbsx | oraAbsy | oraIndx | oraIndy
  | eorImm | eorZp | eorZpx | eorAbs | eorAbsx | eorAbsy | eorIndx | eorIndy
  | aslAcc | lsrAcc | rolAcc | rorAcc =>
    obtain rfl := Host.Outcome.next.inj h
    exact ⟨fun _ => of_decide_eq_true rfl, absurd rfl, absurd rfl, absurd rfl, absurd rfl, rfl, rfl⟩
  -- X
  | ldxImm | ldxZp | ldxZpy | ldxAbs | ldxAbsy | tax | tsx | inx | dex =>
    obtain rfl := Host.Outcome.next.inj h
    exact ⟨absurd rfl, fun _ => of_decide_eq_true rfl, absurd rfl, absurd rfl, absurd rfl, rfl, rfl⟩
  -- Y
  | ldyImm | ldyZp | ldyZpx | ldyAbs | ldyAbsx | tay | iny | dey =>
    obtain rfl := Host.Outcome.next.inj h
    exact ⟨absurd rfl, absurd rfl, fun _ => of_decide_eq_true rfl, absurd rfl, absurd rfl, rfl, rfl⟩
  -- SP
  | txs | pha | php | plp =>
    obtain rfl := Host.Outcome.next.inj h
    exact ⟨absurd rfl, absurd rfl, absurd rfl, fun _ => of_decide_eq_true rfl, absurd rfl, rfl, rfl⟩
  -- A and SP
  | pla =>
    obtain rfl := Host.Outcome.next.inj h
    exact ⟨fun _ => of_decide_eq_true rfl, absurd rfl, absurd rfl, fun _ => of_decide_eq_true rfl, absurd rfl, rfl, rfl⟩
  -- PC
  | jmpAbs | jmpInd =>
    obtain rfl := Host.Outcome.next.inj h
    exact ⟨absurd rfl, absurd rfl, absurd rfl, absurd rfl, fun _ => of_decide_eq_true rfl, rfl, rfl⟩
  | bcc | bcs | beq | bne | bmi | bpl | bvc | bvs =>
    obtain rfl := Host.Outcome.next.inj ((branchIf_eq ..).symm.trans h)
    exact ⟨absurd rfl, absurd rfl, absurd rfl, absurd rfl, fun _ => of_decide_eq_true rfl, rfl, rfl⟩
  -- SP and PC
  | jsr | rts | rti =>
    obtain rfl := Host.Outcome.next.inj h
    exact ⟨absurd rfl, absurd rfl, absurd rfl, fun _ => of_decide_eq_true rfl, fun _ => of_decide_eq_true rfl, rfl, rfl⟩

/-- Settles O13: the byte is the sum of its bits, and reading P forces bit 5 alone. -/
theorem statusByteLayout : Obligations.StatusByteLayout := by
  unfold Obligations.StatusByteLayout
  refine fun s v => ⟨?_, _, rfl, loadedFrom_pLoadOf ..⟩
  simpa only [State.pByte, State.flag, pByteOf_bit_five, getFlag_pByteOf, Bool.toNat_true, mul_one] using byte_toNat_eq_flags (pByteOf s.p)

/-- Settles O14: a step clears bit 5 no more than its meaning does. -/
theorem reservedBitReadsAsOne : Obligations.ReservedBitReadsAsOne := by
  unfold Obligations.ReservedBitReadsAsOne
  have hreset : (0x20#8).getLsbD 5 = true := by decide
  exact ⟨fun _ => hreset, fun s => pByteOf_bit_five s.p, fun _ _ => step_keeps_bit_five⟩

/-- Settles O20: the pull meets the byte PHP pushed. -/
theorem plpAfterPhpRestoresEveryFlag : Obligations.PlpAfterPhpRestoresEveryFlag := by
  unfold Obligations.PlpAfterPhpRestoresEveryFlag
  refine fun s => ⟨_, _, rfl, rfl, ?_, fun f => ?_⟩
  · simp
  · rw [State.pull_push]
    exact getFlag_pLoadOf_pushed s.p f

/-- Settles O24: D commutes with the addition, and no operand is read through P. -/
theorem decimalFlagDoesNotAffectAddAndSubtract : Obligations.DecimalFlagDoesNotAffectAddAndSubtract := by
  unfold Obligations.DecimalFlagDoesNotAffectAddAndSubtract
  intro i s on hi
  cases i with
  | adcImm | adcZp | adcZpx | adcAbs | adcAbsx | adcAbsy | adcIndx | adcIndy
  | sbcImm | sbcZp | sbcZpx | sbcAbs | sbcAbsx | sbcAbsy | sbcIndx | sbcIndy =>
    exact ⟨_, rfl, congrArg _ (addToA_setFlag_d ..)⟩
  | _ => exact absurd hi (of_decide_eq_false rfl)

/-- Settles O37: the byte 0x00 fetches BRK, whose meaning is to halt. -/
theorem brkHalts : Obligations.BrkHalts := by
  unfold Obligations.BrkHalts
  refine ⟨forms_opcodeRow .brk, fun _ => rfl, fun s hs => ?_, step_outcome_events⟩
  have hfetch : fetch s = some .brk := fetch_of_op0 (by rw [hs]; rfl)
  exact ⟨_, step_of_fetch hfetch, rfl⟩

/-- Settles O49: each value is the one `State.resetWith` lists, whatever the state was. -/
theorem resetGivesTheResetState : Obligations.ResetGivesTheResetState := by
  unfold Obligations.ResetGivesTheResetState
  intro s
  have hbyte : pByteOf 0x20#8 = 0x20#8 := by decide
  have hflags : ∀ f, getFlag 0x20#8 f = false := fun f => by cases f <;> decide
  exact ⟨rfl, rfl, rfl, rfl, rfl, rfl, hbyte, hflags, fun _ => rfl, rfl⟩

end Sys2Proof.Machine
end

section
/-! PROOFS. Memory and the stack: one write and its event, a push and a pull, and the transactions that account for what a meaning does to
memory. -/

namespace Sys2Proof.Machine

open Sys2Proof.Spec

/-! ### A write and its event -/

/-- The event a write emits is the one of R262. -/
theorem State.memEvent_eq_writeEvent (s : State) (ea : Word) (v : Byte) : s.memEvent ea v = writeEvent s ea v := by
  cases h : s.observers.memory <;> simp [State.memEvent, writeEvent, h]

/-- A `MemWrite` changes memory and events alone (R51). -/
theorem State.memWrite_eq (s : State) (ea : Word) (v : Byte) :
    s.memWrite ea v = { s with mem := (s.memWrite ea v).mem, events := s.events ++ writeEvent s ea v } := by
  rw [← State.memEvent_eq_writeEvent]; rfl

theorem storesByte_memWrite (s : State) (ea : Word) (v : Byte) : StoresByte s s (s.memWrite ea v) ea v := by
  refine ⟨State.memRead_memWrite_same .., fun b hb => ?_, State.memWrite_eq ..⟩
  rw [State.memRead_memWrite, if_neg hb]

/-! ### The stack -/

theorem stackAddr_toNat (sp : Byte) : (stackAddr sp).toNat = 0x0100 + sp.toNat := by
  simp [stackAddr, word_toNat]

/-- Two pushes in a row go to different addresses, when SP wraps too (R58). -/
theorem stackAddr_sub_one_ne (sp : Byte) : stackAddr (sp - 1#8) ≠ stackAddr sp := by
  rw [Ne, stackAddr_eq_iff]
  bv_omega

theorem State.storesByte_push (s : State) (v : Byte) :
    StoresByte s { s with sp := s.sp - 1#8 } (s.push v) (stackAddr s.sp) v := by
  obtain ⟨hsame, hother, heq⟩ := storesByte_memWrite s (stackAddr s.sp) v
  exact ⟨hsame, hother, congrArg (State.setSp · (s.sp - 1#8)) heq⟩

/-- The second of two pulls after two pushes meets the byte pushed first. -/
theorem State.pull_pull_push_push (s : State) (v w : Byte) :
    ((s.push v).push w).pull.2.pull = (v, ((s.push v).push w).setSp s.sp) := by
  have hne : stackAddr s.sp ≠ stackAddr (s.sp - 1#8) := (stackAddr_sub_one_ne s.sp).symm
  rw [State.pull_push, State.pull_eq]
  exact Prod.ext (by simp [hne]) (congrArg (State.setSp _) (BitVec.sub_add_cancel ..))

/-- A word pushed high byte first (R211) is the word pulled (R212). -/
theorem State.pullWord_push_push (s : State) (hi lo : Byte) :
    ((s.push hi).push lo).pullWord = (word hi lo, ((s.push hi).push lo).setSp s.sp) := by
  simp only [State.pullWord]
  rw [State.pull_pull_push_push, State.pull_push]

/-- RTS (R212) with the word JSR pushed (R211) on top of the stack. -/
theorem execRts_push_push (s : State) (hi lo : Byte) (pc : Word) :
    execRts (((s.push hi).push lo).setPc pc) = .next ((((s.push hi).push lo).setSp s.sp).setPc (word hi lo + 1#16)) :=
  congrArg (fun r : Word × State => Host.Outcome.next (r.2.setPc (r.1 + 1#16))) (State.pullWord_push_push s hi lo)

theorem writeEvent_push {s : State} {ea : Word} (h : ea ≠ stackAddr s.sp) (v w : Byte) :
    writeEvent (s.push v) ea w = writeEvent s ea w := by
  simp [writeEvent, h]

/-! ### Transactions and what they leave -/

/-- The Memory event of a transaction performed from `s`: a read has none (R50, R262). -/
def Access.events (s : State) : Access → List DebugEvent
  | .read _ _ => []
  | .write ea v => writeEvent s ea v

/-- The transactions `l` account for memory and events from `s` to `t`. -/
def AccountedBy (l : List Access) (s t : State) : Prop :=
  t.mem = l.foldl Access.apply s.mem ∧ t.events = s.events ++ l.flatMap (Access.events s)

theorem accountedBy_nil {s t : State} (hm : t.mem = s.mem) (he : t.events = s.events) : AccountedBy [] s t :=
  ⟨hm, he.trans (List.append_nil _).symm⟩

/-- A read leaves nothing to account for (R50). -/
theorem accountedBy_read_cons {s t : State} {ea : Word} {v : Byte} {l : List Access} :
    AccountedBy (.read ea v :: l) s t ↔ AccountedBy l s t := Iff.rfl

theorem accountedBy_write {s t : State} {ea : Word} {v : Byte} (hm : t.mem = (s.memWrite ea v).mem)
    (he : t.events = (s.memWrite ea v).events) : AccountedBy [.write ea v] s t :=
  ⟨hm, by simp [he, Access.events, State.memEvent_eq_writeEvent]⟩

theorem accountedBy_push_push (s : State) (v w : Byte) :
    AccountedBy [.write (stackAddr s.sp) v, .write (stackAddr (s.sp - 1#8)) w] s ((s.push v).push w) := by
  refine ⟨rfl, ?_⟩
  simp [Access.events, State.memEvent_eq_writeEvent, writeEvent_push (stackAddr_sub_one_ne s.sp)]

/-- The transactions of R61 account for every meaning; the cases are grouped by what they do to memory. -/
theorem exec_accountedBy {i : Instr} {s t : State} (h : exec i s = .next t) : AccountedBy (effectAccesses i s) s t := by
  cases i with
  -- one write
  | staZp | staZpx | staAbs | staAbsx | staAbsy | staIndx | staIndy
  | stxZp | stxZpy | stxAbs | styZp | styZpx | styAbs | pha | php =>
    obtain rfl := Host.Outcome.next.inj h
    exact accountedBy_write rfl rfl
  -- one read and one write
  | incZp | incZpx | incAbs | incAbsx | decZp | decZpx | decAbs | decAbsx
  | aslZp | aslZpx | aslAbs | aslAbsx | lsrZp | lsrZpx | lsrAbs | lsrAbsx
  | rolZp | rolZpx | rolAbs | rolAbsx | rorZp | rorZpx | rorAbs | rorAbsx =>
    obtain rfl := Host.Outcome.next.inj h
    exact accountedBy_read_cons.2 (accountedBy_write rfl rfl)
  -- two writes
  | jsr =>
    obtain rfl := Host.Outcome.next.inj h
    exact accountedBy_push_push ..
  -- one read
  | ldaZp | ldaZpx | ldaAbs | ldaAbsx | ldaAbsy | ldaIndx | ldaIndy
  | ldxZp | ldxZpy | ldxAbs | ldxAbsy | ldyZp | ldyZpx | ldyAbs | ldyAbsx
  | adcZp | adcZpx | adcAbs | adcAbsx | adcAbsy | adcIndx | adcIndy
  | sbcZp | sbcZpx | sbcAbs | sbcAbsx | sbcAbsy | sbcIndx | sbcIndy
  | andZp | andZpx | andAbs | andAbsx | andAbsy | andIndx | andIndy
  | oraZp | oraZpx | oraAbs | oraAbsx | oraAbsy | oraIndx | oraIndy
  | eorZp | eorZpx | eorAbs | eorAbsx | eorAbsy | eorIndx | eorIndy
  | bitZp | bitAbs | cmpZp | cmpZpx | cmpAbs | cmpAbsx | cmpAbsy | cmpIndx | cmpIndy
  | cpxZp | cpxAbs | cpyZp | cpyAbs | pla | plp =>
    obtain rfl := Host.Outcome.next.inj h
    exact accountedBy_read_cons.2 (accountedBy_nil rfl rfl)
  -- two reads, and three
  | rts =>
    obtain rfl := Host.Outcome.next.inj h
    exact accountedBy_read_cons.2 (accountedBy_read_cons.2 (accountedBy_nil rfl rfl))
  | rti =>
    obtain rfl := Host.Outcome.next.inj h
    exact accountedBy_read_cons.2 (accountedBy_read_cons.2 (accountedBy_read_cons.2 (accountedBy_nil rfl rfl)))
  -- none
  | bcc | bcs | beq | bne | bmi | bpl | bvc | bvs =>
    obtain rfl := Host.Outcome.next.inj ((branchIf_eq ..).symm.trans h)
    exact accountedBy_nil rfl rfl
  | _ =>
    obtain rfl := Host.Outcome.next.inj h
    exact accountedBy_nil rfl rfl

/-- The meanings that store nothing; the accumulator forms of the shifts are among them (R106). -/
theorem exec_mem_events_of_not_storing {i : Instr} {s t : State} (h : exec i s = .next t)
    (hi : i.mnemonic ∉ storingMnemonics ∨ i.mode = .acc) : t.mem = s.mem ∧ t.events = s.events := by
  cases i with
  -- the forms that store
  | staZp | staZpx | staAbs | staAbsx | staAbsy | staIndx | staIndy
  | stxZp | stxZpy | stxAbs | styZp | styZpx | styAbs | pha | php | jsr
  | incZp | incZpx | incAbs | incAbsx | decZp | decZpx | decAbs | decAbsx
  | aslZp | aslZpx | aslAbs | aslAbsx | lsrZp | lsrZpx | lsrAbs | lsrAbsx
  | rolZp | rolZpx | rolAbs | rolAbsx | rorZp | rorZpx | rorAbs | rorAbsx =>
    exact absurd hi (of_decide_eq_false rfl)
  | bcc | bcs | beq | bne | bmi | bpl | bvc | bvs =>
    obtain rfl := Host.Outcome.next.inj ((branchIf_eq ..).symm.trans h)
    exact ⟨rfl, rfl⟩
  | _ =>
    obtain rfl := Host.Outcome.next.inj h
    exact ⟨rfl, rfl⟩

/-- Outside immediate mode the instructions of R105 have an effective address, and reading it is their one transaction. -/
theorem effectAccesses_of_reader {i : Instr} (s : State)
    (hi : i.mnemonic ∈ [.lda, .ldx, .ldy, .adc, .sbc, .and, .ora, .eor, .bit, .cmp, .cpx, .cpy]) (himm : i.mode ≠ .imm) :
    ∃ ea, effectiveAddress i.operand s = some ea ∧ operandValue i.operand s = some (s.memRead ea) ∧
      effectAccesses i s = [s.readAt ea] := by
  cases i with
  | ldaZp | ldaZpx | ldaAbs | ldaAbsx | ldaAbsy | ldaIndx | ldaIndy
  | ldxZp | ldxZpy | ldxAbs | ldxAbsy | ldyZp | ldyZpx | ldyAbs | ldyAbsx
  | adcZp | adcZpx | adcAbs | adcAbsx | adcAbsy | adcIndx | adcIndy
  | sbcZp | sbcZpx | sbcAbs | sbcAbsx | sbcAbsy | sbcIndx | sbcIndy
  | andZp | andZpx | andAbs | andAbsx | andAbsy | andIndx | andIndy
  | oraZp | oraZpx | oraAbs | oraAbsx | oraAbsy | oraIndx | oraIndy
  | eorZp | eorZpx | eorAbs | eorAbsx | eorAbsy | eorIndx | eorIndy
  | bitZp | bitAbs | cmpZp | cmpZpx | cmpAbs | cmpAbsx | cmpAbsy | cmpIndx | cmpIndy
  | cpxZp | cpxAbs | cpyZp | cpyAbs => exact ⟨_, rfl, rfl, rfl⟩
  | ldaImm | ldxImm | ldyImm | adcImm | sbcImm | andImm | oraImm | eorImm | cmpImm | cpxImm | cpyImm => exact absurd rfl himm
  | _ => exact absurd hi (of_decide_eq_false rfl)

/-! ### A fetch without an instruction -/

/-- Fetching decodes to nothing exactly at an undefined cell of R86: memory gives every operand byte the others call for (R83). -/
theorem fetch_eq_none_iff (s : State) : fetch s = none ↔ opEntry (s.memRead s.pc) = .undef := by
  cases h : opEntry (s.memRead s.pc) <;> simp [fetch, fetchBytes, h, OpEntry.operandBytes, decode]

/-- An undefined opcode is fetched alone (R255). -/
theorem stepAccesses_of_fetch_none {s : State} (h : fetch s = none) : stepAccesses s = [s.readAt s.pc] := by
  simp [stepAccesses, h, fetchAccesses, (fetch_eq_none_iff s).1 h, OpEntry.operandBytes]

/-! ### The obligations -/

/-- Settles O5: a write is one update of memory and one of the events. -/
theorem memWriteThenMemRead : Obligations.MemWriteThenMemRead := by
  unfold Obligations.MemWriteThenMemRead
  exact fun s addr b v => ⟨State.memRead_memWrite s addr b v, State.memWrite_eq s addr v⟩

/-- Settles O7: both go to a stack address, which never carries out of page one (R55). -/
theorem pushStoresAndPullReads : Obligations.PushStoresAndPullReads := by
  unfold Obligations.PushStoresAndPullReads
  refine fun s v => ⟨⟨stackAddr s.sp, stackAddr_toNat _, State.storesByte_push s v⟩, stackAddr (s.sp + 1#8), ?_, rfl⟩
  rw [stackAddr_toNat, BitVec.toNat_add]
  rfl

/-- Settles O8: a pull undoes a push, and the upper of two bytes is not the lower. -/
theorem pullAfterPushGivesTheByteBack : Obligations.PullAfterPushGivesTheByteBack := by
  unfold Obligations.PullAfterPushGivesTheByteBack
  intro s v w
  have hpull := State.pull_push s v
  have hpull₂ := State.pull_pull_push_push s v w
  exact ⟨congrArg Prod.fst hpull, congrArg (·.2.sp) hpull, congrArg Prod.fst hpull₂, congrArg (·.2.sp) hpull₂⟩

/-- Settles O35: RTS pulls the word JSR pushed, PC less one, and adds the one. -/
theorem rtsAfterJsrReturns : Obligations.RtsAfterJsrReturns := by
  unfold Obligations.RtsAfterJsrReturns
  refine fun s w => ⟨_, _, rfl, execRts_push_push .., ?_⟩
  simp

/-- Settles O42: by the meanings that store nothing. -/
theorem memoryChangesOnlyUnderStores : Obligations.MemoryChangesOnlyUnderStores := by
  unfold Obligations.MemoryChangesOnlyUnderStores
  exact fun _ _ _ => exec_mem_events_of_not_storing

/-- Settles O43: by the transactions of each meaning, of the reading forms among them, and of a fetch that ends the step. -/
theorem accessesAccountForMemory : Obligations.AccessesAccountForMemory := by
  unfold Obligations.AccessesAccountForMemory
  refine ⟨fun i s t h => exec_accountedBy h, fun i s hi himm => ?_, fun _ => stepAccesses_of_fetch_none⟩
  obtain ⟨ea, hea, hvalue, haccesses⟩ := effectAccesses_of_reader s hi himm
  exact ⟨ea, _, hea, hvalue, haccesses⟩

/-- Settles O44: no arm of `exec` faults or refuses, and only BRK's halts. -/
theorem everyInstructionCompletes : Obligations.EveryInstructionCompletes := by
  unfold Obligations.EveryInstructionCompletes
  intro i s
  cases i with
  | brk => exact ⟨_, rfl, rfl⟩
  | bcc | bcs | beq | bne | bmi | bpl | bvc | bvs => exact ⟨_, branchIf_eq .., (if_neg nofun).symm⟩
  | _ => exact ⟨_, rfl, (if_neg nofun).symm⟩

end Sys2Proof.Machine
end

section
/-! PROOFS. Encoding: the opcode map (R86) against the table by mnemonic (R87), the addressing modes in numbers, and the bytes the
assembler emits. -/

namespace Sys2Proof.Machine

open Sys2Proof.Spec

/-! ### Decoding by the kind of a cell -/

theorem decode_of_op0 {b : Byte} {i : Instr} (h : opEntry b = .op0 i) (rest : List Byte) : decode (b :: rest) = .ok i rest := by
  simp [decode, h]

theorem decode_of_op1 {b : Byte} {f : Byte → Instr} (h : opEntry b = .op1 f) (p : Byte) (rest : List Byte) :
    decode (b :: p :: rest) = .ok (f p) rest := by
  simp [decode, h]

theorem decode_of_op2 {b : Byte} {f : Word → Instr} (h : opEntry b = .op2 f) (w : Word) (rest : List Byte) :
    decode (b :: loByte w :: hiByte w :: rest) = .ok (f w) rest := by
  simp [decode, h]

/-- Each row of R87 stands in its cell of R86; the cases are grouped by the operand bytes. -/
theorem decode_encode (i : Instr) (rest : List Byte) : decode (encode i ++ rest) = .ok i rest := by
  cases i with
  -- a byte
  | ldaImm | ldaZp | ldaZpx | ldaIndx | ldaIndy | ldxImm | ldxZp | ldxZpy | ldyImm | ldyZp | ldyZpx
  | staZp | staZpx | staIndx | staIndy | stxZp | stxZpy | styZp | styZpx
  | adcImm | adcZp | adcZpx | adcIndx | adcIndy | sbcImm | sbcZp | sbcZpx | sbcIndx | sbcIndy
  | andImm | andZp | andZpx | andIndx | andIndy | oraImm | oraZp | oraZpx | oraIndx | oraIndy
  | eorImm | eorZp | eorZpx | eorIndx | eorIndy | bitZp
  | cmpImm | cmpZp | cmpZpx | cmpIndx | cmpIndy | cpxImm | cpxZp | cpyImm | cpyZp
  | incZp | incZpx | decZp | decZpx | aslZp | aslZpx | lsrZp | lsrZpx | rolZp | rolZpx | rorZp | rorZpx
  | bcc | bcs | beq | bne | bmi | bpl | bvc | bvs => exact decode_of_op1 rfl ..
  -- a word
  | ldaAbs | ldaAbsx | ldaAbsy | ldxAbs | ldxAbsy | ldyAbs | ldyAbsx | staAbs | staAbsx | staAbsy | stxAbs | styAbs
  | adcAbs | adcAbsx | adcAbsy | sbcAbs | sbcAbsx | sbcAbsy | andAbs | andAbsx | andAbsy | oraAbs | oraAbsx | oraAbsy
  | eorAbs | eorAbsx | eorAbsy | bitAbs | cmpAbs | cmpAbsx | cmpAbsy | cpxAbs | cpyAbs | incAbs | incAbsx | decAbs | decAbsx
  | aslAbs | aslAbsx | lsrAbs | lsrAbsx | rolAbs | rolAbsx | rorAbs | rorAbsx | jmpAbs | jmpInd | jsr => exact decode_of_op2 rfl ..
  -- none
  | _ => exact decode_of_op0 rfl ..

/-- What the bytes decode to is encoded as the bytes read: by `opEntry_encodesAs`, cell by cell. -/
theorem eq_encode_of_decode {bs rest : List Byte} {i : Instr} (h : decode bs = .ok i rest) : bs = encode i ++ rest := by
  rcases bs with _ | ⟨b, ops⟩
  · cases h
  have hcell := opEntry_encodesAs b
  cases hop : opEntry b <;> simp only [hop, OpEntry.EncodesAs, decode] at hcell h
  case undef => cases h
  case op0 j =>
    obtain ⟨rfl, rfl⟩ := DecodeResult.ok.inj h
    rw [hcell, List.singleton_append]
  case op1 f =>
    rcases ops with _ | ⟨p, ops⟩
    · cases h
    obtain ⟨rfl, rfl⟩ := DecodeResult.ok.inj h
    rw [hcell]
    rfl
  case op2 f =>
    rcases ops with _ | ⟨p, _ | ⟨q, ops⟩⟩
    · cases h
    · cases h
    obtain ⟨rfl, rfl⟩ := DecodeResult.ok.inj h
    rw [hcell, loByte_word, hiByte_word]
    rfl

/-! ### The undefined opcodes -/

theorem decodeOpcode_eq_none_iff (b : Byte) : decodeOpcode b = none ↔ opEntry b = .undef := by
  cases h : opEntry b <;> simp [decodeOpcode, h]

/-- The list of R88 is that of the bytes R86 gives no descriptor. -/
theorem undefinedOpcodes_eq : undefinedOpcodes = (List.range 256).filter fun n => (decodeOpcode (BitVec.ofNat 8 n)).isNone := by
  decide

theorem mem_undefinedOpcodes_iff (b : Byte) : b.toNat ∈ undefinedOpcodes ↔ decodeOpcode b = none := by
  have hb : b.toNat < 256 := b.isLt
  rw [undefinedOpcodes_eq]
  simp [hb]

/-- A step that fetches no instruction is an InvalidOpcode outcome and leaves the state as it was (R251, R255). -/
theorem stepOnce_of_fetch_none {s : State} (h : fetch s = none) :
    s.stepOnce = { outcome := .error (invalidOpcodeAt s), state := s, events := [] } := by
  simp [State.stepOnce, step_of_fetch_none h]

/-! ### Effective addresses in numbers -/

theorem loByte_toNat (w : Word) : (loByte w).toNat = w.toNat % 256 := by
  simp [loByte]

theorem hiByte_toNat (w : Word) : (hiByte w).toNat = w.toNat / 256 := by
  have hw := w.isLt
  simp [hiByte, Nat.shiftRight_eq_div_pow]
  omega

theorem loByte_ofNat (n : Nat) : loByte (BitVec.ofNat 16 n) = BitVec.ofNat 8 n := by
  apply BitVec.eq_of_toNat_eq
  rw [loByte_toNat, BitVec.toNat_ofNat, BitVec.toNat_ofNat]
  omega

theorem hiByte_ofNat (n : Nat) : hiByte (BitVec.ofNat 16 n) = BitVec.ofNat 8 (n / 256) := by
  apply BitVec.eq_of_toNat_eq
  rw [hiByte_toNat, BitVec.toNat_ofNat, BitVec.toNat_ofNat]
  omega

theorem zext16_eq_ofNat (b : Byte) : zext16 b = BitVec.ofNat 16 b.toNat :=
  (BitVec.ofNat_toNat ..).symm

/-- A zero-page pointer (R102, R103): its second byte stands at the next address modulo 256. -/
theorem zpPointer_toNat (p : Byte) (s : State) :
    (zpPointer p s).toNat =
      (s.memRead (BitVec.ofNat 16 ((p.toNat + 1) % 256))).toNat * 256 + (s.memRead (BitVec.ofNat 16 p.toNat)).toNat := by
  have hnext : (p + 1#8).toNat = (p.toNat + 1) % 256 := BitVec.toNat_add ..
  rw [zpPointer, word_toNat, zext16_eq_ofNat, zext16_eq_ofNat, hnext]

/-- With the page wrap the high byte stands on the pointer's own page (R101). -/
theorem indHiAddr_true (w : Word) : indHiAddr true w = word (hiByte w) (loByte (w + 1#16)) := by
  simp only [indHiAddr, if_pos, word]
  apply BitVec.eq_of_getLsbD_eq
  intro k hk
  rw [BitVec.getLsbD_append]
  by_cases h : k < 8
  · have hlo : (0xFF00#16).getLsbD k = false ∧ (0x00FF#16).getLsbD k = true := by decide +revert
    simp [h, hlo, loByte]
  · have hhi : (0xFF00#16).getLsbD k = true ∧ (0x00FF#16).getLsbD k = false := by decide +revert
    have hk' : k - 8 < 8 := by omega
    simp [h, hk', hhi, hiByte, Nat.add_sub_cancel' (Nat.le_of_not_lt h)]

theorem indHiAddr_toNat (wrap : Bool) (w : Word) :
    (indHiAddr wrap w).toNat =
      if wrap then w.toNat / 256 * 256 + (w.toNat + 1) % 256 else (w.toNat + 1) % 65536 := by
  have hnext : (w + 1#16).toNat = (w.toNat + 1) % 65536 := BitVec.toNat_add ..
  cases wrap with
  | false => exact hnext
  | true =>
    rw [indHiAddr_true, word_toNat, hiByte_toNat, loByte_toNat, hnext, if_pos rfl]
    omega

/-- A branch target (R104) is the sum modulo 2^16, in the integers. -/
theorem relTarget_eq_ofInt (op1 : Byte) (s : State) : relTarget op1 s = BitVec.ofInt 16 (s.pc.toNat + op1.toInt) := by
  rw [BitVec.ofInt_add, BitVec.ofInt_natCast, BitVec.ofNat_toNat, BitVec.setWidth_eq]
  rfl

theorem relTarget_toNat (op1 : Byte) (s : State) : ((relTarget op1 s).toNat : Int) = (s.pc.toNat + op1.toInt) % 65536 := by
  rw [relTarget_eq_ofInt, BitVec.toNat_ofInt, Int.toNat_of_nonneg (by omega)]
  rfl

/-- JMP alone has the indirect mode (R101). -/
theorem mode_eq_ind_iff (i : Instr) : i.mode = .ind ↔ ∃ w, i = .jmpInd w := by
  refine ⟨fun h => ?_, fun ⟨w, hw⟩ => hw ▸ rfl⟩
  cases i with
  | jmpInd w => exact ⟨w, rfl⟩
  | _ => cases h

/-- The branches, and they alone, have the relative mode (R104). -/
theorem mode_eq_rel_iff (i : Instr) : i.mode = .rel ↔ (branchTest i.mnemonic).isSome = true := by
  cases i with
  | bcc | bcs | beq | bne | bmi | bpl | bvc | bvs => exact ⟨fun _ => rfl, fun _ => rfl⟩
  | _ => exact ⟨nofun, nofun⟩

/-! ### Branch offsets -/

/-- The byte emitted is the signed difference (R113). -/
theorem branchOffset_some {address target : Nat} {off : Byte} (h : branchOffset address target = some off) :
    off.toInt = (target : Int) - (address + 2) := by
  simp only [branchOffset] at h
  split at h
  case isFalse => cases h
  case isTrue hd =>
    obtain rfl := Option.some.inj h
    exact BitVec.toInt_ofInt_eq_self (by decide) (by omega) (by omega)

theorem branchOffset_eq_none_iff (address target : Nat) :
    branchOffset address target = none ↔
      ((target : Int) - (address + 2) < -128 ∨ 127 < (target : Int) - (address + 2)) := by
  simp only [branchOffset]
  split <;> simp <;> omega

/-! ### The bytes pass 2 emits -/

theorem operand_bytes_length (o : Operand) : o.bytes.length = o.mode.operandBytes := by
  cases o <;> rfl

/-- An opcode byte of R87 decodes, by R86, to its mnemonic and mode. -/
theorem decodeOpcode_of_opcodeOf {m : Mnemonic} {md : Mode} {b : Byte} (h : opcodeOf m md = some b) :
    decodeOpcode b = some { mnemonic := m, mode := md } :=
  opcodeRow_decodes m _ (lookup_mem h)

/-- Whatever the operand bytes, the descriptor of what decodes is the opcode byte's (R81). -/
theorem decodeOpcode_of_decode {b : Byte} {ops rest : List Byte} {i : Instr} (h : decode (b :: ops) = .ok i rest) :
    decodeOpcode b = some i.descriptor := by
  obtain ⟨b', hb', henc⟩ := encode_eq_cons i
  have heq := eq_encode_of_decode h
  rw [henc, List.cons_append] at heq
  obtain ⟨rfl, -⟩ := List.cons.inj heq
  exact decodeOpcode_of_opcodeOf hb'

theorem length_of_encode_eq_cons {i : Instr} {b : Byte} {ops : List Byte} (h : encode i = b :: ops) :
    ops.length = i.mode.operandBytes := by
  obtain ⟨_, -, henc⟩ := encode_eq_cons i
  obtain ⟨-, rfl⟩ := List.cons.inj (henc.symm.trans h)
  exact operand_bytes_length i.operand

/-- A cell calls for as many operand bytes as the mode of its descriptor has (R80, R82). -/
theorem opEntry_operandBytes {b : Byte} {d : Descriptor} (h : decodeOpcode b = some d) :
    (opEntry b).operandBytes = d.mode.operandBytes := by
  have hcell := opEntry_encodesAs b
  cases hop : opEntry b <;> simp only [hop, OpEntry.EncodesAs, decodeOpcode] at hcell h
  case undef => cases h
  case op0 i =>
    obtain rfl := Option.some.inj h
    exact length_of_encode_eq_cons hcell
  case op1 f =>
    obtain rfl := Option.some.inj h
    exact length_of_encode_eq_cons (hcell 0#8)
  case op2 f =>
    obtain rfl := Option.some.inj h
    exact length_of_encode_eq_cons (hcell 0#16)

/-- A defined opcode byte followed by the operand bytes its mode has is an instruction of its descriptor. -/
theorem exists_decode_of_length {b : Byte} {d : Descriptor} {ops : List Byte} (h : decodeOpcode b = some d)
    (hlen : ops.length = d.mode.operandBytes) : ∃ i, decode (b :: ops) = .ok i [] ∧ i.descriptor = d := by
  suffices hdec : ∃ i, decode (b :: ops) = .ok i [] by
    obtain ⟨i, hi⟩ := hdec
    exact ⟨i, hi, Option.some.inj ((decodeOpcode_of_decode hi).symm.trans h)⟩
  rw [← opEntry_operandBytes h] at hlen
  cases hop : opEntry b <;> rw [hop] at hlen
  case undef => simp [decodeOpcode, hop] at h
  case op0 i =>
    obtain rfl := List.length_eq_zero_iff.1 hlen
    exact ⟨i, decode_of_op0 hop []⟩
  case op1 f =>
    obtain ⟨p, rfl⟩ := List.length_eq_one_iff.1 hlen
    exact ⟨f p, decode_of_op1 hop p []⟩
  case op2 f =>
    obtain ⟨p, q, rfl⟩ := List.length_eq_two.1 hlen
    have hdec := decode_of_op2 hop (word q p) []
    rw [loByte_word, hiByte_word] at hdec
    exact ⟨_, hdec⟩

/-- R87 has a cell for each mode of a mnemonic. -/
theorem map_fst_opcodeRow (m : Mnemonic) : (opcodeRow m).map Prod.fst = modesOf m := by
  cases m <;> rfl

theorem exists_opcodeOf_of_hasMode {m : Mnemonic} {md : Mode} (h : hasMode m md = true) : ∃ b, opcodeOf m md = some b := by
  have hmem : md ∈ (opcodeRow m).map Prod.fst := by
    rw [map_fst_opcodeRow]
    exact List.contains_iff_mem.1 h
  obtain ⟨e, he, rfl⟩ := List.mem_map.1 hmem
  exact Option.isSome_iff_exists.1 (List.lookup_isSome_iff.2 ⟨e, he, beq_self_eq_true _⟩)

/-! One equation of `emitOperand` for each number of operand bytes (R82), a branch apart, and what follows when it answers. -/

theorem emitOperand_of_operandBytes_zero {md : Mode} (h : md.operandBytes = 0) (address n : Nat) :
    emitOperand address md n = .ok [] := by
  cases md with
  | imp | acc => rfl
  | _ => cases h

theorem emitOperand_of_operandBytes_one {md : Mode} (h : md.operandBytes = 1) (hrel : md ≠ .rel) (address n : Nat) :
    emitOperand address md n = if n < 256 then .ok [BitVec.ofNat 8 n] else .error .invalidOperand := by
  cases md with
  | imm | zp | zpx | zpy | indx | indy => rfl
  | rel => exact absurd rfl hrel
  | _ => cases h

/-- A word is emitted low byte first (R83). -/
theorem emitOperand_of_operandBytes_two {md : Mode} (h : md.operandBytes = 2) (address n : Nat) :
    emitOperand address md n =
      if n < 65536 then .ok [loByte (BitVec.ofNat 16 n), hiByte (BitVec.ofNat 16 n)] else .error .invalidOperand := by
  rw [loByte_ofNat, hiByte_ofNat]
  cases md with
  | abs | absx | absy | ind => rfl
  | _ => cases h

/-- A branch target that is no address is refused before its offset is looked at (R115). -/
theorem emitOperand_rel_of_le {n : Nat} (h : 65536 ≤ n) (address : Nat) :
    emitOperand address .rel n = .error .invalidOperand := if_neg (by omega)

theorem emitOperand_rel_eq_ok {address n : Nat} {bytes : List Byte} (h : emitOperand address .rel n = .ok bytes) :
    n < 65536 ∧ ∃ off, branchOffset address n = some off ∧ bytes = [off] := by
  simp only [emitOperand] at h
  split at h
  case isFalse => cases h
  case isTrue hn =>
    split at h
    case h_1 off hoff => exact ⟨hn, off, hoff, (Except.ok.inj h).symm⟩
    case h_2 => cases h

theorem emitOperand_one_eq_ok {md : Mode} {address n : Nat} {bytes : List Byte} (h : emitOperand address md n = .ok bytes)
    (hmd : md.operandBytes = 1) (hrel : md ≠ .rel) : bytes = [BitVec.ofNat 8 n] ∧ n < 256 := by
  rw [emitOperand_of_operandBytes_one hmd hrel] at h
  split at h
  case isTrue hn => exact ⟨(Except.ok.inj h).symm, hn⟩
  case isFalse => cases h

theorem emitOperand_one_of_le {md : Mode} {n : Nat} (hmd : md.operandBytes = 1) (hrel : md ≠ .rel) (hn : 256 ≤ n) (address : Nat) :
    emitOperand address md n = .error .invalidOperand := by
  rw [emitOperand_of_operandBytes_one hmd hrel, if_neg (by omega)]

theorem emitOperand_two_eq_ok {md : Mode} {address n : Nat} {bytes : List Byte} (h : emitOperand address md n = .ok bytes)
    (hmd : md.operandBytes = 2) :
    bytes = [loByte (BitVec.ofNat 16 n), hiByte (BitVec.ofNat 16 n)] ∧ n < 65536 := by
  rw [emitOperand_of_operandBytes_two hmd] at h
  split at h
  case isTrue hn => exact ⟨(Except.ok.inj h).symm, hn⟩
  case isFalse => cases h

/-- What is emitted has the length pass 1 sized it with (R82, R114). -/
theorem emitOperand_length {md : Mode} {address n : Nat} {bytes : List Byte} (h : emitOperand address md n = .ok bytes) :
    bytes.length = md.operandBytes := by
  cases md with
  | imp | acc =>
    rw [emitOperand_of_operandBytes_zero rfl] at h
    obtain rfl := Except.ok.inj h
    rfl
  | rel =>
    obtain ⟨-, off, -, rfl⟩ := emitOperand_rel_eq_ok h
    rfl
  | imm | zp | zpx | zpy | indx | indy =>
    obtain ⟨rfl, -⟩ := emitOperand_one_eq_ok h rfl nofun
    rfl
  | abs | absx | absy | ind =>
    obtain ⟨rfl, -⟩ := emitOperand_two_eq_ok h rfl
    rfl

/-- No field holds 65,536 or more (R115). -/
theorem emitOperand_of_le {md : Mode} {n : Nat} (hmd : md.operandBytes ≠ 0) (hn : 65536 ≤ n) (address : Nat) :
    emitOperand address md n = .error .invalidOperand := by
  cases md with
  | imp | acc => exact absurd rfl hmd
  | rel => exact emitOperand_rel_of_le hn address
  | imm | zp | zpx | zpy | indx | indy =>
    exact emitOperand_one_of_le (by decide) (by decide) (by omega) address
  | abs | absx | absy | ind =>
    exact (emitOperand_of_operandBytes_two rfl address n).trans (if_neg (by omega))

/-! ### The obligations -/

/-- Settles O2: each row of the table by mnemonic stands in its cell of the opcode map. -/
theorem decodeOfEncodeIsTheInstruction : Obligations.DecodeOfEncodeIsTheInstruction := by
  unfold Obligations.DecodeOfEncodeIsTheInstruction
  exact decode_encode

/-- Settles O3: each cell of the opcode map is encoded with its own byte. -/
theorem decodedBytesAreTheEncoding : Obligations.DecodedBytesAreTheEncoding := by
  unfold Obligations.DecodedBytesAreTheEncoding
  exact fun _ _ _ => eq_encode_of_decode

/-- Settles O4: the list is that of the undefined cells, where a step fetches no instruction. -/
theorem undefinedOpcodesEndTheStepUnchanged : Obligations.UndefinedOpcodesEndTheStepUnchanged := by
  unfold Obligations.UndefinedOpcodesEndTheStepUnchanged
  refine ⟨rfl, fun b => (mem_undefinedOpcodes_iff b).symm, fun s hs => ?_⟩
  have hfetch : fetch s = none :=
    (fetch_eq_none_iff s).2 ((decodeOpcode_eq_none_iff _).1 ((mem_undefinedOpcodes_iff _).1 hs))
  rw [stepOnce_of_fetch_none hfetch]
  exact ⟨⟨_, _, rfl⟩, rfl⟩

/-- Settles O10: an index is added in a byte before it is a zero-page address, Y in a word after the pointer is read. -/
theorem zeroPageIndexedModesInNumbers : Obligations.ZeroPageIndexedModesInNumbers := by
  unfold Obligations.ZeroPageIndexedModesInNumbers
  intro s op1
  have hsum : ∀ r : Byte, (op1 + r).toNat = (op1.toNat + r.toNat) % 256 := fun r => BitVec.toNat_add ..
  refine ⟨⟨_, rfl, ?_⟩, ⟨_, rfl, ?_⟩, ⟨_, _, _, rfl, rfl, rfl, ?_⟩, ⟨_, _, _, rfl, rfl, rfl, ?_⟩⟩
  · rw [eaZpx, zext16_toNat, hsum]
  · rw [eaZpy, zext16_toNat, hsum]
  · rw [eaIndx, zpPointer_toNat, hsum, Nat.mod_add_mod]
  · rw [eaIndy, BitVec.toNat_add, zpPointer_toNat, zext16_toNat]

/-- Settles O11: the two addresses of the high byte, in numbers, part at the end of a page alone. -/
theorem indirectPointerForBothSettings : Obligations.IndirectPointerForBothSettings := by
  unfold Obligations.IndirectPointerForBothSettings
  refine ⟨mode_eq_ind_iff, fun s w => ?_⟩
  have hw : w.toNat < 65536 := w.isLt
  refine ⟨⟨_, _, _, rfl, rfl, rfl, ?_⟩, fun hlow => ?_, fun hlow heq => ?_⟩
  · rw [eaInd, word_toNat, ← indHiAddr_toNat, BitVec.ofNat_toNat, BitVec.setWidth_eq]
  · apply BitVec.eq_of_toNat_eq
    simp only [indHiAddr_toNat, if_true, Bool.false_eq_true, if_false]
    omega
  · have := congrArg BitVec.toNat heq
    simp only [indHiAddr_toNat, if_true, Bool.false_eq_true, if_false] at this
    omega

/-- Settles O12: a word is the sum of PC and the offset in the integers, reduced modulo 2^16. -/
theorem relativeTargetInNumbers : Obligations.RelativeTargetInNumbers := by
  unfold Obligations.RelativeTargetInNumbers
  exact ⟨mode_eq_rel_iff, fun s op1 => relTarget_toNat op1 s⟩

/-- Settles O59: the offset is the signed difference, so added to PC it gives the target, when PC wraps too. -/
theorem assembledBranchesReachTheirTarget : Obligations.AssembledBranchesReachTheirTarget := by
  unfold Obligations.AssembledBranchesReachTheirTarget
  refine fun address target => ⟨branchOffset_eq_none_iff address target, fun off s hoff htarget hpc => ?_⟩
  have hreach := relTarget_toNat off s
  rw [branchOffset_some hoff, hpc, BitVec.toNat_ofNat] at hreach
  omega

/-- Settles O60: the opcode byte has the descriptor, the emitted bytes the length of its mode, and so they decode. -/
theorem emittedBytesDecodeToTheirInstruction : Obligations.EmittedBytesDecodeToTheirInstruction := by
  unfold Obligations.EmittedBytesDecodeToTheirInstruction
  refine ⟨fun m md address n bytes hmode hemit => ?_, fun md address n => ⟨fun hmd hn => emitOperand_of_le hmd hn address, ?_⟩⟩
  · obtain ⟨op, hop⟩ := exists_opcodeOf_of_hasMode hmode
    obtain ⟨i, hdec, hdesc⟩ := exists_decode_of_length (decodeOpcode_of_opcodeOf hop) (emitOperand_length hemit)
    refine ⟨op, i, hop, hdec, congrArg Descriptor.mnemonic hdesc, congrArg Descriptor.mode hdesc, ?_, ?_, ?_⟩
    · rintro rfl
      exact emitOperand_rel_eq_ok hemit
    · exact emitOperand_one_eq_ok hemit
    · exact emitOperand_two_eq_ok hemit
  · exact fun hmd hrel hn => emitOperand_one_of_le hmd hrel hn address

/-- Settles O1: each word is, by R87, the encoding of its instruction. -/
theorem specWordsDecodeToTheirInstruction : Obligations.SpecWordsDecodeToTheirInstruction := by
  unfold Obligations.SpecWordsDecodeToTheirInstruction
  exact ⟨decode_encode (.ldaImm 0x02#8) [], decode_encode (.staIndy 0x40#8) [], decode_encode (.stxZpy 0x10#8) [],
    decode_encode .tsx [], decode_encode .pha [], decode_encode (.adcAbsx 0x1234#16) [], decode_encode (.sbcIndx 0x20#8) [],
    decode_encode .rorAcc [], decode_encode (.decAbsx 0x0200#16) [], decode_encode (.jmpInd 0x10FF#16) [],
    decode_encode (.bne 0x05#8) [], decode_encode .brk [], decode_encode .sed []⟩

/-- Settles O9: an index is added to the word modulo 2^16. -/
theorem plainModesInNumbers : Obligations.PlainModesInNumbers := by
  unfold Obligations.PlainModesInNumbers
  intro s op1 w
  have hsum : ∀ r : Byte, (w + zext16 r).toNat = (w.toNat + r.toNat) % 65536 := fun r => by
    rw [BitVec.toNat_add, zext16_toNat]
  exact ⟨⟨_, rfl, zext16_toNat op1⟩, ⟨_, rfl, rfl⟩, ⟨_, rfl, hsum s.x⟩, ⟨_, rfl, hsum s.y⟩⟩

/-- Settles O58: the four texts, run through both passes. -/
theorem sampleTextsAssemble : Obligations.SampleTextsAssemble := by
  unfold Obligations.SampleTextsAssemble
  exact ⟨by decide, by decide, by decide, by decide⟩

end Sys2Proof.Machine
end

section
/-! PROOFS. Loads and stores: an instruction that reads an operand is its mnemonic's operation on the operand value (R105), and a store
writes its register to the effective address. -/

namespace Sys2Proof.Machine

open Sys2Proof.Spec

/-! ### The instructions of R105 by their mnemonic -/

/-- The operation on M of each mnemonic of R105 that does not write back. -/
def readOp : Mnemonic → Option (Byte → State → Result)
  | .lda => some opLda
  | .ldx => some opLdx
  | .ldy => some opLdy
  | .adc => some opAdc
  | .sbc => some opSbc
  | .and => some opAnd
  | .ora => some opOra
  | .eor => some opEor
  | .bit => some opBit
  | .cmp => some opCmp
  | .cpx => some opCpx
  | .cpy => some opCpy
  | _ => none

/-- In every mode an instruction of R105 is its mnemonic's operation, with M resolved by that mode. -/
theorem exec_of_readOp {i : Instr} {mn : Mnemonic} {op : Byte → State → Result} (s : State) (hi : i.mnemonic = mn)
    (hop : readOp mn = some op) : ∃ m, operandValue i.operand s = some m ∧ exec i s = op m s := by
  subst hi
  cases i with
  | ldaImm | ldaZp | ldaZpx | ldaAbs | ldaAbsx | ldaAbsy | ldaIndx | ldaIndy
  | ldxImm | ldxZp | ldxZpy | ldxAbs | ldxAbsy | ldyImm | ldyZp | ldyZpx | ldyAbs | ldyAbsx
  | adcImm | adcZp | adcZpx | adcAbs | adcAbsx | adcAbsy | adcIndx | adcIndy
  | sbcImm | sbcZp | sbcZpx | sbcAbs | sbcAbsx | sbcAbsy | sbcIndx | sbcIndy
  | andImm | andZp | andZpx | andAbs | andAbsx | andAbsy | andIndx | andIndy
  | oraImm | oraZp | oraZpx | oraAbs | oraAbsx | oraAbsy | oraIndx | oraIndy
  | eorImm | eorZp | eorZpx | eorAbs | eorAbsx | eorAbsy | eorIndx | eorIndy | bitZp | bitAbs
  | cmpImm | cmpZp | cmpZpx | cmpAbs | cmpAbsx | cmpAbsy | cmpIndx | cmpIndy
  | cpxImm | cpxZp | cpxAbs | cpyImm | cpyZp | cpyAbs =>
    obtain rfl := Option.some.inj hop
    exact ⟨_, rfl, rfl⟩
  | _ => cases hop

/-- `SetZN(v)` (R27) writes Z and N alone. -/
theorem flagsBecome_putZN (p v : Byte) : FlagsBecome p (putZN p v) (setsZN v) := by
  refine ⟨fun f => ?_, putZN_bit_five p v⟩
  rw [getFlag_putZN]
  cases f <;> rfl

/-! ### The stores -/

/-- The register each store writes to memory (R133, R134, R135). -/
def storedRegister : Mnemonic → Option (State → Byte)
  | .sta => some State.a
  | .stx => some State.x
  | .sty => some State.y
  | _ => none

/-- In every mode a store is one write of its register, at the address resolved by that mode. -/
theorem exec_of_storedRegister {i : Instr} {mn : Mnemonic} {reg : State → Byte} (s : State) (hi : i.mnemonic = mn)
    (hreg : storedRegister mn = some reg) :
    ∃ ea, effectiveAddress i.operand s = some ea ∧ exec i s = .next (s.memWrite ea (reg s)) := by
  subst hi
  cases i with
  | staZp | staZpx | staAbs | staAbsx | staAbsy | staIndx | staIndy
  | stxZp | stxZpy | stxAbs | styZp | styZpx | styAbs =>
    obtain rfl := Option.some.inj hreg
    exact ⟨_, rfl, rfl⟩
  | _ => cases hreg

/-! ### The obligations -/

/-- Settles O15: the three operations on M write their register, then `SetZN(M)`. -/
theorem loadsWriteTheirRegister : Obligations.LoadsWriteTheirRegister := by
  unfold Obligations.LoadsWriteTheirRegister
  refine ⟨forms_opcodeRow .lda, forms_opcodeRow .ldx, forms_opcodeRow .ldy,
    fun i s => ⟨fun hi => ?_, fun hi => ?_, fun hi => ?_⟩⟩
  all_goals
    obtain ⟨m, hm, hexec⟩ := exec_of_readOp s hi rfl
    exact ⟨m, _, hm, flagsBecome_putZN .., hexec⟩

/-- Settles O16: a store is one write, which stores that byte alone. -/
theorem storesWriteTheByteAtEA : Obligations.StoresWriteTheByteAtEA := by
  unfold Obligations.StoresWriteTheByteAtEA
  refine ⟨forms_opcodeRow .sta, forms_opcodeRow .stx, forms_opcodeRow .sty,
    fun i s => ⟨fun hi => ?_, fun hi => ?_, fun hi => ?_⟩⟩
  all_goals
    obtain ⟨ea, hea, hexec⟩ := exec_of_storedRegister s hi rfl
    exact ⟨ea, _, hea, hexec, storesByte_memWrite ..⟩

end Sys2Proof.Machine
end

section
/-! PROOFS. Transfers and stack instructions: a register copied or pulled and `SetZN` of it, a push, and P pushed and loaded. -/

namespace Sys2Proof.Machine

open Sys2Proof.Spec

/-! ### The byte PHP pushes -/

/-- PHP (R157) pushes every flag but B as it is, and bits 4 and 5 set. -/
theorem pByteOf_or_0x30 (p : Byte) :
    (∀ f, f ≠ .b → getFlag (pByteOf p ||| 0x30#8) f = getFlag p f) ∧
      (pByteOf p ||| 0x30#8).getLsbD 4 = true ∧ (pByteOf p ||| 0x30#8).getLsbD 5 = true := by
  refine ⟨fun f hf => ?_, ?_, ?_⟩
  · rw [getFlag_or_0x30 _ hf, getFlag_pByteOf]
  · simp
  · simp

/-! ### The obligations -/

/-- Settles O17: five of the six write their register, then `SetZN` of the byte copied; TXS writes SP alone. -/
theorem transfersCopyARegister : Obligations.TransfersCopyARegister := by
  unfold Obligations.TransfersCopyARegister
  refine ⟨forms_opcodeRow .tax, forms_opcodeRow .tay, forms_opcodeRow .txa,
    forms_opcodeRow .tya, forms_opcodeRow .tsx, forms_opcodeRow .txs, fun s => ?_⟩
  have hzn := flagsBecome_putZN s.p
  exact ⟨⟨_, hzn s.a, rfl⟩, ⟨_, hzn s.a, rfl⟩, ⟨_, hzn s.x, rfl⟩, ⟨_, hzn s.y, rfl⟩, ⟨_, hzn s.sp, rfl⟩, rfl⟩

/-- Settles O18: a push stores one byte, and a pull leaves P to `SetZN`. -/
theorem phaPushesAndPlaPulls : Obligations.PhaPushesAndPlaPulls := by
  unfold Obligations.PhaPushesAndPlaPulls
  refine ⟨forms_opcodeRow .pha, forms_opcodeRow .pla, fun s => ⟨?_, ?_⟩⟩
  · exact ⟨_, rfl, State.storesByte_push s s.a⟩
  · exact ⟨_, _, rfl, flagsBecome_putZN .., rfl⟩

/-- Settles O19: what PHP pushes differs from P in bits 4 and 5 alone, and PLP is `PLoad` of what it pulls. -/
theorem phpPushesAndPlpPullsStatus : Obligations.PhpPushesAndPlpPullsStatus := by
  unfold Obligations.PhpPushesAndPlpPullsStatus
  refine ⟨forms_opcodeRow .php, forms_opcodeRow .plp, fun s => ⟨?_, ?_⟩⟩
  · exact ⟨_, _, rfl, State.storesByte_push s _, pByteOf_or_0x30 s.p⟩
  · exact ⟨_, loadedFrom_pLoadOf .., rfl⟩

end Sys2Proof.Machine
end

section
/-! PROOFS. Arithmetic and logic: SBC is ADC of the complement of M (R172), and V is signed overflow (R170); the statements of ADC, SBC,
the logic operations, BIT and the compares. -/

namespace Sys2Proof.Machine

open Sys2Proof.Spec

/-! ### The operand of SBC in numbers -/

theorem subOperand_eq_not (m : Byte) : subOperand m = ~~~m := BitVec.xor_allOnes

theorem subOperand_toNat (m : Byte) : (subOperand m).toNat = 255 - m.toNat := by
  rw [subOperand_eq_not, BitVec.toNat_not]

theorem subOperand_toInt (m : Byte) : (subOperand m).toInt = -1 - m.toInt := by
  have hm := m.isLt
  rw [BitVec.toInt_eq_toNat_cond, BitVec.toInt_eq_toNat_cond, subOperand_toNat]
  split <;> split <;> omega

/-- The result of SBC (R172) is the difference with borrow. -/
theorem addByte_subOperand_toNat (a m : Byte) (c : Bool) :
    ((addByte a (subOperand m) c).toNat : Int) = ((a.toNat : Int) - m.toNat - (1 - c.toNat)) % 256 := by
  have hm := m.isLt
  rw [addByte_toNat, subOperand_toNat]
  omega

/-- C after SBC (R172): no borrow. -/
theorem addCarry_subOperand (a m : Byte) (c : Bool) :
    addCarry a (subOperand m) c = decide ((a.toNat : Int) - m.toNat - (1 - c.toNat) ≥ 0) := by
  have hm := m.isLt
  rw [addCarry, addSum, subOperand_toNat, decide_eq_decide]
  omega

/-! ### V is signed overflow -/

theorem and_0x80_ne_zero_iff (v : Byte) : v &&& 0x80#8 ≠ 0#8 ↔ v.msb = true := by
  have htwo : v &&& 0x80#8 = if v.getLsbD 7 then 0x80#8 else 0#8 := BitVec.and_twoPow v 7
  rw [htwo, BitVec.msb_eq_getLsbD_last]
  cases v.getLsbD 7 <;> decide

/-- The formula of R171. -/
theorem addOverflow_eq_decide (a m : Byte) (c : Bool) :
    addOverflow a m c = decide ((a ^^^ addByte a m c) &&& (m ^^^ addByte a m c) &&& 0x80#8 ≠ 0#8) := by
  rw [addOverflow, bne, beq_eq_decide, decide_not]

/-- V after ADC (R171): both operands differ from the result in sign. -/
theorem addOverflow_iff_msb (a m : Byte) (c : Bool) :
    addOverflow a m c = true ↔ a.msb ≠ (addByte a m c).msb ∧ m.msb ≠ (addByte a m c).msb := by
  rw [addOverflow_eq_decide, decide_eq_true_iff, and_0x80_ne_zero_iff]
  simp

/-- Operands of one sign whose result has the other sign are those whose exact sum no byte holds (R170, R171). -/
theorem addOverflow_iff (a m : Byte) (c : Bool) :
    addOverflow a m c = true ↔ ¬ (-128 ≤ a.toInt + m.toInt + c.toNat ∧ a.toInt + m.toInt + c.toNat ≤ 127) := by
  have ha := a.isLt
  have hm := m.isLt
  have hc := c.toNat_le
  rw [addOverflow_iff_msb]
  simp only [BitVec.msb_eq_decide, BitVec.toInt_eq_toNat_cond, addByte_toNat, ne_eq, decide_eq_decide]
  split <;> split <;> omega

/-- The same for SBC, whose operand `-1 - M` makes the exact sum the difference with borrow (R172). -/
theorem addOverflow_subOperand_iff (a m : Byte) (c : Bool) :
    addOverflow a (subOperand m) c = true ↔
      ¬ (-128 ≤ a.toInt - m.toInt - (1 - c.toNat) ∧ a.toInt - m.toInt - (1 - c.toNat) ≤ 127) := by
  rw [addOverflow_iff, subOperand_toInt]
  omega

/-! ### The operation on M, and P after it -/

/-- `exec_of_readOp` for a given M. -/
theorem exec_eq_of_readOp {i : Instr} {s : State} {mn : Mnemonic} {op : Byte → State → Result} {m : Byte}
    (hi : i.mnemonic = mn) (hop : readOp mn = some op) (hm : operandValue i.operand s = some m) : exec i s = op m s := by
  obtain ⟨m', hm', hexec⟩ := exec_of_readOp s hi hop
  obtain rfl : m = m' := Option.some.inj (hm.symm.trans hm')
  exact hexec

theorem addToA_flag_v (m : Byte) (s : State) : (addToA m s).flag .v = addOverflow s.a m (s.flag .c) := by
  simp [State.flag, addToA_eq]

theorem flagsBecome_addFlags (p a m : Byte) (c : Bool) :
    FlagsBecome p (addFlags p a m c) (setsZNCV (addByte a m c) (addCarry a m c) (addOverflow a m c)) := by
  refine ⟨fun f => ?_, addFlags_bit_five p a m c⟩
  rw [getFlag_addFlags]
  cases f <;> rfl

/-- A compare is its register's, in every mode (R177, R178, R179). -/
theorem exec_compare {i : Instr} {s : State} {reg : Byte}
    (h : (i.mnemonic = .cmp ∧ reg = s.a) ∨ (i.mnemonic = .cpx ∧ reg = s.x) ∨ (i.mnemonic = .cpy ∧ reg = s.y)) :
    ∃ m, operandValue i.operand s = some m ∧ exec i s = .next (s.setP (cmpFlags s.p reg m)) := by
  obtain ⟨hi, rfl⟩ | ⟨hi, rfl⟩ | ⟨hi, rfl⟩ := h <;> exact exec_of_readOp s hi rfl

/-! ### The obligations -/

/-- Settles O21: A and P are the sum and its flags, as R171 has them. -/
theorem adcAddsWithCarry : Obligations.AdcAddsWithCarry := by
  unfold Obligations.AdcAddsWithCarry
  refine ⟨forms_opcodeRow .adc, fun i s hi => ?_⟩
  obtain ⟨m, hm, hexec⟩ := exec_of_readOp s hi rfl
  have hflags := flagsBecome_addFlags s.p s.a m (s.flag .c)
  rw [addOverflow_eq_decide] at hflags
  exact ⟨m, _, _, hm, addByte_toNat .., hflags, hexec⟩

/-- Settles O22: adding the complement of M with carry is subtracting M with borrow. -/
theorem sbcSubtractsWithBorrow : Obligations.SbcSubtractsWithBorrow := by
  unfold Obligations.SbcSubtractsWithBorrow
  refine ⟨forms_opcodeRow .sbc, fun i s hi => ?_⟩
  obtain ⟨m, hm, hexec⟩ := exec_of_readOp s hi rfl
  have hflags := flagsBecome_addFlags s.p s.a (subOperand m) (s.flag .c)
  rw [addCarry_subOperand, addOverflow_eq_decide] at hflags
  exact ⟨m, _, _, hm, addByte_subOperand_toNat .., hflags, hexec⟩

/-- Settles O23: ADC and SBC are one addition, with V as the overflow of its exact sum. -/
theorem overflowFlagIsSignedOverflow : Obligations.OverflowFlagIsSignedOverflow := by
  unfold Obligations.OverflowFlagIsSignedOverflow
  refine fun i s t m hm hexec => ⟨fun hi => ?_, fun hi => ?_⟩
  · obtain rfl := Host.Outcome.next.inj (hexec.symm.trans (exec_eq_of_readOp hi rfl hm))
    rw [addToA_flag_v, addOverflow_iff]
  · obtain rfl := Host.Outcome.next.inj (hexec.symm.trans (exec_eq_of_readOp hi rfl hm))
    rw [addToA_flag_v, addOverflow_subOperand_iff]

/-- Settles O25: the three operations on M write A, then `SetZN(A)`. -/
theorem logicOperationsOnA : Obligations.LogicOperationsOnA := by
  unfold Obligations.LogicOperationsOnA
  refine ⟨forms_opcodeRow .and, forms_opcodeRow .ora, forms_opcodeRow .eor,
    fun i s => ⟨fun hi => ?_, fun hi => ?_, fun hi => ?_⟩⟩
  all_goals
    obtain ⟨m, hm, hexec⟩ := exec_of_readOp s hi rfl
    exact ⟨m, _, hm, flagsBecome_putZN .., hexec⟩

/-- Settles O26: BIT writes P alone, and of it Z, N and V. -/
theorem bitTestsAAgainstM : Obligations.BitTestsAAgainstM := by
  unfold Obligations.BitTestsAAgainstM
  refine ⟨forms_opcodeRow .bit, fun i s hi => ?_⟩
  obtain ⟨m, hm, hexec⟩ := exec_of_readOp s hi rfl
  refine ⟨m, hm, bitFlags s.p s.a m, ⟨fun f => ?_, bitFlags_bit_five ..⟩, hexec⟩
  rw [getFlag_bitFlags]
  cases f <;> rfl

/-- Settles O27: a compare writes P alone, and of it C, Z and N. -/
theorem comparesSetZNCOnly : Obligations.ComparesSetZNCOnly := by
  unfold Obligations.ComparesSetZNCOnly
  refine ⟨forms_opcodeRow .cmp, forms_opcodeRow .cpx, forms_opcodeRow .cpy, fun i s reg h => ?_⟩
  obtain ⟨m, hm, hexec⟩ := exec_compare h
  have hr : ((reg - m).toNat : Int) = ((reg.toNat : Int) - m.toNat) % 256 := by
    have hlt := m.isLt
    rw [BitVec.toNat_sub]
    omega
  refine ⟨m, reg - m, hm, hr, cmpFlags s.p reg m, ⟨fun f => ?_, cmpFlags_bit_five ..⟩, hexec⟩
  rw [getFlag_cmpFlags]
  cases f <;> rfl

end Sys2Proof.Machine
end

section
/-! PROOFS. Increments, shifts and rotates: INC, DEC and the memory forms of the shifts read and write the byte at EA (R106), the
accumulator forms A; the shifts in numbers. -/

namespace Sys2Proof.Machine

open Sys2Proof.Spec

/-! ### A write with P -/

/-- A write and a new P change nothing else, in either order. -/
theorem State.storesByte_memWrite_setP (s : State) (ea : Word) (v q : Byte) :
    StoresByte s { s with p := q } ((s.memWrite ea v).setP q) ea v := by
  obtain ⟨hsame, hother, heq⟩ := storesByte_memWrite s ea v
  exact ⟨hsame, hother, congrArg (State.setP · q) heq⟩

/-! ### INC and DEC of memory -/

/-- What INC and DEC (R190, R191) make of the byte at EA. -/
def incDecByte : Mnemonic → Option (Byte → Byte)
  | .inc => some incByte
  | .dec => some decByte
  | _ => none

/-- In every mode INC and DEC write back the byte at EA and `SetZN` of what they write. -/
theorem exec_of_incDecByte {i : Instr} {mn : Mnemonic} {f : Byte → Byte} (s : State) (hi : i.mnemonic = mn)
    (hf : incDecByte mn = some f) :
    ∃ ea, effectiveAddress i.operand s = some ea ∧ exec i s = .next (storeZN ea (f (s.memRead ea)) s) := by
  subst hi
  cases i with
  | incZp | incZpx | incAbs | incAbsx | decZp | decZpx | decAbs | decAbsx =>
    obtain rfl := Option.some.inj hf
    exact ⟨_, rfl, rfl⟩
  | _ => cases hf

theorem storesByte_storeZN (s : State) (ea : Word) (r : Byte) :
    StoresByte s { s with p := putZN s.p r } (storeZN ea r s) ea r :=
  s.storesByte_memWrite_setP ea r (putZN s.p r)

/-! ### The shifts in numbers -/

theorem aslByte_result_toNat (v : Byte) : (aslByte v).result.toNat = 2 * v.toNat % 256 := by
  rw [aslByte, BitVec.toNat_shiftLeft, Nat.shiftLeft_eq, pow_one, Nat.mul_comm]

theorem lsrByte_result_toNat (v : Byte) : (lsrByte v).result.toNat = v.toNat / 2 := by
  rw [lsrByte, BitVec.toNat_ushiftRight, Nat.shiftRight_one]

/-- The old C enters at a bit that is clear, so it is added. -/
theorem toNat_or_ite_of_and_eq_zero {x b : Byte} (c : Bool) (h : x &&& b = 0#8) :
    (x ||| (if c then b else 0#8)).toNat = x.toNat + b.toNat * c.toNat := by
  cases c with
  | false => simp
  | true => simp [← BitVec.add_eq_or_of_and_eq_zero x b h, BitVec.toNat_add_of_and_eq_zero h]

/-- ROL (R198): ASL leaves bit 0 clear. -/
theorem rolByte_result_toNat (c : Bool) (v : Byte) : (rolByte c v).result.toNat = (2 * v.toNat + c.toNat) % 256 := by
  have hclear : (aslByte v).result &&& 0x01#8 = 0#8 := by
    rw [BitVec.and_one_eq_setWidth_ofBool_getLsbD]
    simp [aslByte]
  have hsum : (rolByte c v).result.toNat = (aslByte v).result.toNat + 1 * c.toNat := toNat_or_ite_of_and_eq_zero c hclear
  have hc := c.toNat_le
  rw [hsum, aslByte_result_toNat]
  omega

/-- ROR (R199): LSR leaves bit 7 clear. -/
theorem rorByte_result_toNat (c : Bool) (v : Byte) : (rorByte c v).result.toNat = v.toNat / 2 + 128 * c.toNat := by
  have hclear : (lsrByte v).result &&& 0x80#8 = 0#8 := by
    have hmsb : (lsrByte v).result.msb = false := by simp [lsrByte]
    simpa [hmsb] using not_congr (and_0x80_ne_zero_iff (lsrByte v).result)
  rw [← lsrByte_result_toNat]
  exact toNat_or_ite_of_and_eq_zero c hclear

/-! ### The shift of each mnemonic, and the operand it shifts -/

/-- The shift of each mnemonic of R196 to R199, from the old C and the byte. -/
def shiftOf : Mnemonic → Option (Bool → Byte → Shifted)
  | .asl => some fun _ => aslByte
  | .lsr => some fun _ => lsrByte
  | .rol => some rolByte
  | .ror => some rorByte
  | _ => none

/-- Each of the four has its shift, which is that of the rules in numbers. -/
theorem exists_shiftOf {m : Mnemonic} (h : m ∈ [.asl, .lsr, .rol, .ror]) :
    ∃ f, shiftOf m = some f ∧ ∀ c v, ShiftGives m c v (f c v).result (f c v).carry := by
  cases m with
  | asl => exact ⟨_, rfl, fun _ v => ⟨aslByte_result_toNat v, rfl⟩⟩
  | lsr => exact ⟨_, rfl, fun _ v => ⟨lsrByte_result_toNat v, rfl⟩⟩
  | rol => exact ⟨_, rfl, fun c v => ⟨rolByte_result_toNat c v, rfl⟩⟩
  | ror => exact ⟨_, rfl, fun c v => ⟨rorByte_result_toNat c v, rfl⟩⟩
  | _ => exact absurd h (of_decide_eq_false rfl)

/-- A shift is of A and to A, or of the byte at EA and to it (R93, R106). -/
theorem exec_of_shiftOf {i : Instr} {f : Bool → Byte → Shifted} (s : State) (hf : shiftOf i.mnemonic = some f) :
    (i.mode = .acc ∧ operandValue i.operand s = some s.a ∧ exec i s = shiftAcc (f (s.flag .c) s.a) s) ∨
    (i.mode ≠ .acc ∧ ∃ ea, effectiveAddress i.operand s = some ea ∧ operandValue i.operand s = some (s.memRead ea) ∧
      exec i s = shiftMem ea (f (s.flag .c) (s.memRead ea)) s) := by
  cases i with
  | aslAcc | lsrAcc | rolAcc | rorAcc =>
    obtain rfl := Option.some.inj hf
    exact .inl ⟨rfl, rfl, rfl⟩
  | aslZp | aslZpx | aslAbs | aslAbsx | lsrZp | lsrZpx | lsrAbs | lsrAbsx
  | rolZp | rolZpx | rolAbs | rolAbsx | rorZp | rorZpx | rorAbs | rorAbsx =>
    obtain rfl := Option.some.inj hf
    exact .inr ⟨of_decide_eq_false rfl, _, rfl, rfl, rfl⟩
  | _ => cases hf

theorem flagsBecome_shiftFlags (p : Byte) (r : Shifted) : FlagsBecome p (shiftFlags p r) (setsZNC r.result r.carry) := by
  refine ⟨fun f => ?_, shiftFlags_bit_five p r⟩
  rw [getFlag_shiftFlags]
  cases f <;> rfl

/-! ### The obligations -/

/-- Settles O28: both write back the byte at EA, one more or one less. -/
theorem incAndDecOfMemory : Obligations.IncAndDecOfMemory := by
  unfold Obligations.IncAndDecOfMemory
  refine ⟨forms_opcodeRow .inc, forms_opcodeRow .dec, fun i s => ⟨fun hi => ?_, fun hi => ?_⟩⟩
  · obtain ⟨ea, hea, hexec⟩ := exec_of_incDecByte s hi rfl
    exact ⟨ea, _, _, _, hea, incByte_toNat _, flagsBecome_putZN .., hexec, storesByte_storeZN ..⟩
  · obtain ⟨ea, hea, hexec⟩ := exec_of_incDecByte s hi rfl
    exact ⟨ea, _, _, _, hea, decByte_toNat _, flagsBecome_putZN .., hexec, storesByte_storeZN ..⟩

/-- Settles O29: each writes its register, one more or one less, then `SetZN` of it. -/
theorem incAndDecOfIndexRegisters : Obligations.IncAndDecOfIndexRegisters := by
  unfold Obligations.IncAndDecOfIndexRegisters
  refine ⟨forms_opcodeRow .inx, forms_opcodeRow .iny, forms_opcodeRow .dex, forms_opcodeRow .dey, fun s => ?_⟩
  have hzn := flagsBecome_putZN s.p
  exact ⟨⟨_, _, incByte_toNat s.x, hzn _, rfl⟩, ⟨_, _, incByte_toNat s.y, hzn _, rfl⟩,
    ⟨_, _, decByte_toNat s.x, hzn _, rfl⟩, ⟨_, _, decByte_toNat s.y, hzn _, rfl⟩⟩

/-- Settles O30: the mnemonic decides the shift, the mode what is shifted and where it is written. -/
theorem shiftsAndRotates : Obligations.ShiftsAndRotates := by
  unfold Obligations.ShiftsAndRotates
  refine ⟨forms_opcodeRow .asl, forms_opcodeRow .lsr, forms_opcodeRow .rol, forms_opcodeRow .ror, fun i s hi => ?_⟩
  obtain ⟨f, hf, hgives⟩ := exists_shiftOf hi
  obtain ⟨hacc, hv, hexec⟩ | ⟨hmem, ea, hea, hv, hexec⟩ := exec_of_shiftOf s hf
  · exact ⟨_, _, _, _, hv, hgives .., flagsBecome_shiftFlags .., fun _ => hexec, fun hne => absurd hacc hne⟩
  · refine ⟨_, _, _, _, hv, hgives .., flagsBecome_shiftFlags .., fun hacc => absurd hacc hmem, fun _ => ?_⟩
    exact ⟨ea, _, hea, hexec.trans (shiftMem_eq ..), State.storesByte_memWrite_setP ..⟩

end Sys2Proof.Machine
end

section
/-! PROOFS. Control transfer: JMP, the two pushes of JSR and the pulls of RTS and RTI each as one update of the state, the branches by the
flag they test, and NOP. -/

namespace Sys2Proof.Machine

open Sys2Proof.Spec

/-! ### JMP and the branches by their mnemonic -/

/-- In both modes JMP is `opJmp` at the address resolved by that mode. -/
theorem exec_of_jmp {i : Instr} (s : State) (hi : i.mnemonic = .jmp) :
    ∃ ea, effectiveAddress i.operand s = some ea ∧ exec i s = opJmp ea s := by
  cases i with
  | jmpAbs | jmpInd => exact ⟨_, rfl, rfl⟩
  | _ => cases hi

/-- A branch is `branchIf`, its condition being that the flag of `branchTest` has the value named there. -/
theorem exec_of_branchTest {i : Instr} {f : Flag} {v : Bool} (s : State) (h : branchTest i.mnemonic = some (f, v)) :
    ∃ op1, i.operand = .rel op1 ∧ exec i s = branchIf (s.flag f == v) op1 s := by
  cases i with
  -- the flag set
  | bcs | beq | bmi | bvs =>
    obtain ⟨rfl, rfl⟩ := Prod.mk.inj (Option.some.inj h)
    exact ⟨_, rfl, congrArg (branchIf · _ s) (beq_true _).symm⟩
  -- the flag clear
  | bcc | bne | bpl | bvc =>
    obtain ⟨rfl, rfl⟩ := Prod.mk.inj (Option.some.inj h)
    exact ⟨_, rfl, congrArg (branchIf · _ s) (beq_false _).symm⟩
  | _ => cases h

theorem branchIf_beq (b v : Bool) (op1 : Byte) (s : State) :
    branchIf (b == v) op1 s = .next (if b = v then s.setPc (relTarget op1 s) else s) := by
  simp only [branchIf, beq_iff_eq]

/-! ### Two pushes and two pulls -/

theorem sp_sub_one_sub_one (sp : Byte) : sp - 1#8 - 1#8 = sp - 2#8 := by bv_omega

/-- After two pushes (R56) every byte but the two pushed is as before. -/
theorem State.push_push_memRead_other {s : State} {b : Word} (v w : Byte) (hv : b ≠ stackAddr s.sp)
    (hw : b ≠ stackAddr (s.sp - 1#8)) : ((s.push v).push w).memRead b = s.memRead b := by
  simp [hv, hw]

/-- The byte pushed first is not overwritten by the second (R58). -/
theorem State.push_push_memRead_first (s : State) (v w : Byte) :
    ((s.push v).push w).memRead (stackAddr s.sp) = v := by
  have hne : stackAddr s.sp ≠ stackAddr (s.sp - 1#8) := (stackAddr_sub_one_ne s.sp).symm
  rw [State.push_memRead, State.push_sp, if_neg hne, State.push_memRead, if_pos rfl]

/-- Two pushes (R56) lower SP by 2 and emit their events in order; but for these and memory nothing changes. -/
theorem State.push_push_eq (s : State) (v w : Byte) :
    (s.push v).push w =
      { s with
        sp := s.sp - 2#8
        mem := ((s.push v).push w).mem
        events := s.events ++ writeEvent s (stackAddr s.sp) v ++ writeEvent s (stackAddr (s.sp - 1#8)) w } := by
  obtain ⟨-, -, hfirst⟩ := State.storesByte_push s v
  obtain ⟨-, -, hsecond⟩ := State.storesByte_push (s.push v) w
  have hevents : (s.push v).events = s.events ++ writeEvent s (stackAddr s.sp) v := congrArg State.events hfirst
  rw [State.push_sp, writeEvent_push (stackAddr_sub_one_ne s.sp), sp_sub_one_sub_one, hevents] at hsecond
  exact hsecond

/-- The two bytes of `PC -16 1` (R211), in numbers. -/
theorem hiByte_loByte_sub_one_toNat (pc : Word) :
    (hiByte (pc - 1#16)).toNat * 256 + (loByte (pc - 1#16)).toNat = (pc.toNat + 65535) % 65536 := by
  rw [← word_toNat, word_hi_lo, BitVec.toNat_sub, Nat.add_comm]
  rfl

/-- A pulled word (R212, R213) raises SP by 2. -/
theorem State.pullWord_eq_add_two (s : State) :
    s.pullWord = (word (s.memRead (stackAddr (s.sp + 2#8))) (s.memRead (stackAddr (s.sp + 1#8))), s.setSp (s.sp + 2#8)) := by
  have hsp : s.sp + 1#8 + 1#8 = s.sp + 2#8 := BitVec.add_assoc ..
  rw [State.pullWord_eq, hsp]

/-- RTS (R212): PC from the two bytes above SP, plus 1. -/
theorem execRts_eq (s : State) :
    execRts s = .next { s with
      pc := word (s.memRead (stackAddr (s.sp + 2#8))) (s.memRead (stackAddr (s.sp + 1#8))) + 1#16
      sp := s.sp + 2#8 } := by
  rw [execRts, State.pullWord_eq_add_two]
  rfl

/-- RTI (R213): P from the first byte above SP, PC from the next two. -/
theorem execRti_eq (s : State) :
    execRti s = .next { s with
      p := pLoadOf s.p (s.memRead (stackAddr (s.sp + 1#8)))
      pc := word (s.memRead (stackAddr (s.sp + 3#8))) (s.memRead (stackAddr (s.sp + 2#8)))
      sp := s.sp + 3#8 } := by
  have htwo : s.sp + 1#8 + 1#8 = s.sp + 2#8 := BitVec.add_assoc ..
  have hthree : s.sp + 1#8 + 2#8 = s.sp + 3#8 := BitVec.add_assoc ..
  simp only [execRti, State.pull_eq, State.pullWord_eq_add_two, State.pLoad_sp, State.setSp_sp, htwo, hthree]
  rfl

/-! ### The obligations -/

/-- Settles O31: the mode decides EA, and `opJmp` writes PC alone. -/
theorem jmpSetsPc : Obligations.JmpSetsPc := by
  unfold Obligations.JmpSetsPc
  exact ⟨forms_opcodeRow .jmp, fun _ => exec_of_jmp⟩

/-- Settles O32: the two bytes of PC less one are pushed, and the second push leaves the first byte. -/
theorem jsrPushesReturnAddressAndJumps : Obligations.JsrPushesReturnAddressAndJumps := by
  unfold Obligations.JsrPushesReturnAddressAndJumps
  refine ⟨forms_opcodeRow .jsr, fun s w => ⟨_, _, _, hiByte_loByte_sub_one_toNat s.pc, rfl, ?_, ?_, ?_, ?_⟩⟩
  · exact State.push_push_memRead_first ..
  · exact State.memRead_memWrite_same ..
  · exact fun b => State.push_push_memRead_other _ _
  · exact congrArg (State.setPc · w) (State.push_push_eq ..)

/-- Settles O33: RTS adds one to the word it pulls. -/
theorem rtsPullsPcPlusOne : Obligations.RtsPullsPcPlusOne := by
  unfold Obligations.RtsPullsPcPlusOne
  refine ⟨forms_opcodeRow .rts, fun s => ⟨_, ?_, execRts_eq s⟩⟩
  rw [BitVec.toNat_add, word_toNat]
  rfl

/-- Settles O34: RTI loads P from the first byte pulled, and adds nothing to the word. -/
theorem rtiPullsStatusAndPc : Obligations.RtiPullsStatusAndPc := by
  unfold Obligations.RtiPullsStatusAndPc
  exact ⟨forms_opcodeRow .rti, fun s => ⟨_, _, loadedFrom_pLoadOf .., word_toNat .., execRti_eq s⟩⟩

/-- Settles O36: a branch tests one flag, and writes PC alone when taken. -/
theorem branchesTestOneFlag : Obligations.BranchesTestOneFlag := by
  unfold Obligations.BranchesTestOneFlag
  refine ⟨forms_opcodeRow .bcc, forms_opcodeRow .bcs, forms_opcodeRow .beq, forms_opcodeRow .bne, forms_opcodeRow .bmi,
    forms_opcodeRow .bpl, forms_opcodeRow .bvc, forms_opcodeRow .bvs, fun i s f v h => ?_⟩
  obtain ⟨op1, hoperand, hexec⟩ := exec_of_branchTest s h
  exact ⟨op1, _, hoperand, relTarget_toNat op1 s, hexec.trans (branchIf_beq ..)⟩

/-- Settles O38: the byte 0xEA fetches NOP, whose meaning is the state itself. -/
theorem nopOnlyAdvancesPc : Obligations.NopOnlyAdvancesPc := by
  unfold Obligations.NopOnlyAdvancesPc
  refine ⟨forms_opcodeRow .nop, fun _ => rfl, fun s hs => ?_⟩
  have hfetch : fetch s = some .nop := fetch_of_op0 (by rw [hs]; rfl)
  exact ⟨_, step_of_fetch hfetch, rfl⟩

end Sys2Proof.Machine
end

section
/-! PROOFS. The flag instructions: each is one flag write, so what it changes is read off `setFlag`. -/

namespace Sys2Proof.Machine

open Sys2Proof.Spec

/-! ### One flag write -/

/-- A flag write gives that flag its value and keeps the rest of P (R26, R33). -/
theorem flagsBecome_putFlag (p : Byte) (f : Flag) (on : Bool) : FlagsBecome p (putFlag p f on) (setsOne f on) := by
  refine ⟨fun g => ?_, putFlag_bit_five ..⟩
  rw [getFlag_putFlag, setsOne]
  split <;> rfl

/-- An instruction whose meaning is one flag write changes nothing else. -/
theorem onlyFlags_of_exec_setFlag {i : Instr} {s : State} {f : Flag} {on : Bool}
    (h : exec i s = .next (s.setFlag f on)) : OnlyFlags i s (setsOne f on) :=
  ⟨_, flagsBecome_putFlag .., h⟩

/-! ### The obligations -/

/-- Settles O39: the meaning of each of the seven is one flag write. -/
theorem flagInstructionsWriteOneFlag : Obligations.FlagInstructionsWriteOneFlag := by
  unfold Obligations.FlagInstructionsWriteOneFlag
  refine ⟨forms_opcodeRow .clc, forms_opcodeRow .sec, forms_opcodeRow .cli, forms_opcodeRow .sei, forms_opcodeRow .cld,
    forms_opcodeRow .sed, forms_opcodeRow .clv, fun s => ⟨?_, ?_, ?_, ?_, ?_, ?_, ?_⟩⟩
  all_goals exact onlyFlags_of_exec_setFlag rfl

end Sys2Proof.Machine
end

section
/-! PROOFS. Outcomes, debug events and runs: what a fetched opcode makes of a step, which events a step delivers, and where `execute` ends. -/

namespace Sys2Proof.Machine

open Sys2Proof.Spec

/-! ### The fetched instruction -/

/-- An undefined opcode (R88) is what a fetch without an instruction meets. -/
theorem fetch_eq_none_iff_mem (s : State) : fetch s = none ↔ (s.memRead s.pc).toNat ∈ undefinedOpcodes := by
  rw [fetch_eq_none_iff, mem_undefinedOpcodes_iff, decodeOpcode_eq_none_iff]

/-- A step fetches the instruction that the three bytes at PC decode to (R83): those past its length are not read. -/
theorem fetch_of_decode {s : State} {i : Instr} {rest : List Byte}
    (h : decode [s.memRead s.pc, s.memRead (s.pc + 1#16), s.memRead (s.pc + 2#16)] = .ok i rest) : fetch s = some i := by
  cases hop : opEntry (s.memRead s.pc) with
  | undef => simp [decode, hop] at h
  | op0 _ | op1 _ | op2 _ =>
    simp only [decode, hop, DecodeResult.ok.injEq] at h
    simp [fetch, fetchBytes, hop, OpEntry.operandBytes, decode, h]

theorem decode_of_fetch {s : State} {i : Instr} (h : fetch s = some i) : ∃ rest, decode (fetchBytes s) = .ok i rest := by
  rw [fetch] at h
  split at h
  · next j rest hdec => exact ⟨rest, Option.some.inj h ▸ hdec⟩
  · cases h

theorem head?_fetchBytes (s : State) : (fetchBytes s).head? = some (s.memRead s.pc) := by
  simp only [fetchBytes]
  split <;> rfl

/-- The byte at PC is the first of the fetched instruction's encoding. -/
theorem memRead_pc_of_fetch {s : State} {i : Instr} (h : fetch s = some i) : (encode i).head? = some (s.memRead s.pc) := by
  obtain ⟨rest, hdec⟩ := decode_of_fetch h
  obtain ⟨b, -, henc⟩ := encode_eq_cons i
  rw [← head?_fetchBytes, eq_encode_of_decode hdec, henc]
  rfl

/-- Only the byte 0x00 fetches BRK (R87). -/
theorem memRead_pc_of_fetch_brk {s : State} (h : fetch s = some .brk) : s.memRead s.pc = 0#8 :=
  (Option.some.inj (memRead_pc_of_fetch h)).symm

theorem encode_length (i : Instr) : (encode i).length = i.length := by
  obtain ⟨b, -, henc⟩ := encode_eq_cons i
  rw [henc, List.length_cons, operand_bytes_length, Nat.add_comm]
  rfl

/-- A step with a defined opcode completes (R257), Halted if it is BRK's (R252), else Continuing. -/
theorem step_next_of_fetch {s : State} {i : Instr} (h : fetch s = some i) :
    ∃ t, step s = .next t ∧ t.lastOutcome = if i = .brk then .halted else .continuing := by
  obtain ⟨u, hu, hout⟩ := everyInstructionCompletes i (startStep i s)
  exact ⟨endStep i s u, by rw [step_of_fetch h, hu, finishStep], hout⟩

/-! ### The events of a step -/

/-- With other observers a meaning writes the same but for the events (R264). -/
theorem exec_with_observers {i : Instr} {s t : State} (h : exec i s = .next t) (o : Observers) :
    ∃ ev, exec i { s with observers := o } = .next { t with observers := o, events := ev } := by
  cases i with
  | bcc | bcs | beq | bne | bmi | bpl | bvc | bvs =>
    obtain rfl := Host.Outcome.next.inj ((branchIf_eq ..).symm.trans h)
    exact ⟨_, branchIf_eq ..⟩
  | _ =>
    obtain rfl := Host.Outcome.next.inj h
    exact ⟨_, rfl⟩

/-- Without an observer of their channel no transaction has a Memory event (R262). -/
theorem Access.events_of_no_observer {s : State} (h : s.observers.memory = none) (l : List Access) :
    l.flatMap (Access.events s) = [] := by
  refine List.flatMap_eq_nil_iff.2 fun x _ => ?_
  cases x with
  | read ea v => rfl
  | write ea v => simp [Access.events, writeEvent, h]

theorem Access.exists_eq_memory {s : State} {x : Access} {e : DebugEvent} (h : e ∈ x.events s) :
    ∃ a old new, e = .memory a old new := by
  cases x with
  | read ea v => cases h
  | write ea v =>
    rw [Access.events, writeEvent, List.mem_ite_nil_left] at h
    exact ⟨_, _, _, List.mem_singleton.1 h.2⟩

/-- A storing form has a write among its transactions (R61). -/
theorem exists_write_of_storing {i : Instr} (s : State) (hi : i.mnemonic ∈ storingMnemonics) (hacc : i.mode ≠ .acc) :
    ∃ ea v, .write ea v ∈ effectAccesses i s := by
  cases i with
  -- one write
  | staZp | staZpx | staAbs | staAbsx | staAbsy | staIndx | staIndy
  | stxZp | stxZpy | stxAbs | styZp | styZpx | styAbs | pha | php => exact ⟨_, _, List.mem_singleton_self _⟩
  -- the first of two writes
  | jsr => exact ⟨_, _, List.mem_cons_self ..⟩
  -- a read, then a write
  | incZp | incZpx | incAbs | incAbsx | decZp | decZpx | decAbs | decAbsx
  | aslZp | aslZpx | aslAbs | aslAbsx | lsrZp | lsrZpx | lsrAbs | lsrAbsx
  | rolZp | rolZpx | rolAbs | rolAbsx | rorZp | rorZpx | rorAbs | rorAbsx =>
    exact ⟨_, _, List.mem_cons_of_mem _ (List.mem_singleton_self _)⟩
  | aslAcc | lsrAcc | rolAcc | rorAcc => exact absurd rfl hacc
  | _ => exact absurd hi (of_decide_eq_false rfl)

/-- A storing form emits a Memory event when their channel has an observer (R262). -/
theorem exec_events_ne_nil {i : Instr} {s t : State} (h : exec i s = .next t) (hobs : s.observers.memory ≠ none)
    (hi : i.mnemonic ∈ storingMnemonics) (hacc : i.mode ≠ .acc) : t.events ≠ [] := by
  obtain ⟨ea, v, hmem⟩ := exists_write_of_storing s hi hacc
  obtain ⟨-, hev⟩ := exec_accountedBy h
  refine List.ne_nil_of_mem (a := .memory ea (s.memRead ea) v) ?_
  rw [hev]
  refine List.mem_append_right _ (List.mem_flatMap_of_mem hmem ?_)
  simp [Access.events, writeEvent, hobs]

theorem cpuEvents_eq (i : Instr) (s t : State) :
    cpuEvents i s t = if s.observers.cpu = none then []
      else [.cpu i.mnemonic (resolveOperand i.operand (startStep i s)) s.pc s.snapshot t.snapshot] := by
  cases h : s.observers.cpu <;> simp [cpuEvents, h]

theorem registersEvents_eq (s t : State) :
    registersEvents s t = if s.observers.registers = none then [] else [.registers t.snapshot] := by
  cases h : s.observers.registers <;> simp [registersEvents, h]

/-! ### Runs -/

theorem executeLoop_of_continuing {s t : State} (h : step s = .next t) (hout : t.lastOutcome = .continuing) (n : Nat)
    (seen : List DebugEvent) : State.executeLoop (n + 1) s seen = State.executeLoop n t (seen ++ t.events) := by
  simp [State.executeLoop, State.stepOnce, h, hout, StepOutcome.report]

theorem executeLoop_of_halted {s t : State} (h : step s = .next t) (hout : t.lastOutcome = .halted) (n : Nat)
    (seen : List DebugEvent) :
    State.executeLoop (n + 1) s seen = { outcome := .halted, state := t, events := seen ++ t.events } := by
  simp [State.executeLoop, State.stepOnce, h, hout, StepOutcome.report]

theorem executeLoop_of_fault {s : State} {f : Fault} (h : step s = .fault f) (n : Nat) (seen : List DebugEvent) :
    State.executeLoop (n + 1) s seen = { outcome := .error f, state := s, events := seen } := by
  simp [State.executeLoop, State.stepOnce, h]

/-- Continuing steps use up as much of the count (R285). -/
theorem executeLoop_of_continues {k : Nat} {s t : State} (h : Continues k s t) (n : Nat) (seen : List DebugEvent) :
    ∃ seen', State.executeLoop (k + n) s seen = State.executeLoop n t seen' := by
  induction k generalizing s seen with
  | zero => exact ⟨seen, by rw [Nat.zero_add, show s = t from h]⟩
  | succ k ih =>
    obtain ⟨u, hstep, hout, hrest⟩ := h
    rw [Nat.succ_add, executeLoop_of_continuing hstep hout]
    exact ih hrest _

theorem execute_of_continues {k : Nat} {s t : State} (h : Continues k s t) (hk : k ≤ s.params.stepCap) :
    ∃ seen, s.execute = State.executeLoop (s.params.stepCap - k) t seen := by
  have hrun := executeLoop_of_continues h (s.params.stepCap - k) []
  rwa [Nat.add_sub_of_le hk] at hrun

/-- Below the cap the loop goes on to the next step. -/
theorem execute_of_continues_lt {k : Nat} {s t : State} (h : Continues k s t) (hk : k < s.params.stepCap) :
    ∃ n seen, s.execute = State.executeLoop (n + 1) t seen := by
  obtain ⟨seen, hrun⟩ := execute_of_continues h hk.le
  obtain ⟨n, hn⟩ := Nat.exists_eq_add_one.2 (Nat.sub_pos_of_lt hk)
  exact ⟨n, seen, hn ▸ hrun⟩

theorem continues_inv {k : Nat} {s t : State} (h : Continues k s t) (hs : s.inv = true) : t.inv = true := by
  induction k generalizing s with
  | zero => exact (show s = t from h) ▸ hs
  | succ k ih =>
    obtain ⟨u, hstep, -, hrest⟩ := h
    exact ih hrest (step_inv hs hstep)

/-- `n` steps are Continuing, or one before is the first that halts or has no instruction to run. -/
theorem continues_or_stops (n : Nat) (s : State) :
    (∃ t, Continues n s t) ∨ ∃ k t, k < n ∧ Continues k s t ∧
      ((∃ u, step t = .next u ∧ u.lastOutcome = .halted) ∨ fetch t = none) := by
  induction n generalizing s with
  | zero => exact .inl ⟨s, rfl⟩
  | succ n ih =>
    cases hfetch : fetch s with
    | none => exact .inr ⟨0, s, n.succ_pos, rfl, .inr hfetch⟩
    | some i =>
      obtain ⟨u, hstep, -⟩ := step_next_of_fetch hfetch
      cases hout : u.lastOutcome with
      | halted => exact .inr ⟨0, s, n.succ_pos, rfl, .inl ⟨u, hstep, hout⟩⟩
      | continuing =>
        obtain ⟨t, ht⟩ | ⟨k, t, hk, ht, hstop⟩ := ih u
        · exact .inl ⟨t, u, hstep, hout, ht⟩
        · exact .inr ⟨k + 1, t, Nat.succ_lt_succ hk, ⟨u, hstep, hout, ht⟩, hstop⟩

/-! ### The obligations -/

/-- Settles O45: the fetch decides whether a step completes, and the byte whether it fetched BRK. -/
theorem opcodeDecidesTheOutcome : Obligations.OpcodeDecidesTheOutcome := by
  unfold Obligations.OpcodeDecidesTheOutcome
  refine fun s => ⟨fun hundef => step_of_fetch_none ((fetch_eq_none_iff_mem s).2 hundef), fun hzero => ?_, fun hdef hne => ?_⟩
  · exact step_next_of_fetch (i := .brk) (fetch_of_op0 (by rw [hzero]; rfl))
  · obtain ⟨i, hfetch⟩ := Option.ne_none_iff_exists'.1 (mt (fetch_eq_none_iff_mem s).1 hdef)
    obtain ⟨t, hstep, hout⟩ := step_next_of_fetch hfetch
    exact ⟨t, hstep, hout.trans (if_neg fun hi : i = .brk => hne (memRead_pc_of_fetch_brk (hi ▸ hfetch)))⟩

/-- Settles O51: the Memory events are those of the meaning, which its transactions account for. -/
theorem stepEventsInOrder : Obligations.StepEventsInOrder := by
  unfold Obligations.StepEventsInOrder
  intro s t i hfetch hstep
  obtain ⟨j, u, hj, hu, rfl⟩ := step_cases hstep
  obtain rfl : j = i := Option.some.inj (hj.symm.trans hfetch)
  obtain ⟨-, hev⟩ := exec_accountedBy hu
  rw [startStep_events, List.nil_append] at hev
  refine ⟨u.events, fun e he => ?_, ?_, fun hobs => exec_events_ne_nil hu hobs, ?_⟩
  · rw [hev] at he
    obtain ⟨x, -, he⟩ := List.mem_flatMap.1 he
    exact Access.exists_eq_memory he
  · rintro (hobs | hi)
    · exact hev.trans (Access.events_of_no_observer hobs _)
    · exact (exec_mem_events_of_not_storing hu hi).2
  · rw [endStep_events, cpuEvents_eq, registersEvents_eq]
    rfl

/-- Settles O50: the observers decide the events alone, and each event of O51 is on a channel with an observer. -/
theorem observersChangeNoArchitecturalState : Obligations.ObserversChangeNoArchitecturalState := by
  unfold Obligations.ObserversChangeNoArchitecturalState
  refine ⟨fun s c o o' => ?_, fun _ _ => ⟨rfl, rfl, rfl⟩, fun s t o hstep => ?_, fun s t hstep e he => ?_⟩
  · cases c <;> exact ⟨rfl, rfl⟩
  · obtain ⟨i, u, hfetch, hu, rfl⟩ := step_cases hstep
    obtain ⟨ev, hev⟩ := exec_with_observers hu o
    have hfetch' : fetch { s with observers := o } = some i := hfetch
    have hu' : exec i (startStep i { s with observers := o }) = .next { u with observers := o, events := ev } := hev
    exact ⟨_, by rw [step_of_fetch hfetch', hu']; rfl⟩
  · obtain ⟨i, -, hfetch, -, -⟩ := step_cases hstep
    obtain ⟨writes, hmem, hnone, -, hev⟩ := stepEventsInOrder s t i hfetch hstep
    simp only [hev, List.mem_append, List.mem_ite_nil_left, List.mem_singleton] at he
    obtain (hw | ⟨hobs, rfl⟩) | ⟨hobs, rfl⟩ := he
    · obtain ⟨addr, old, new, rfl⟩ := hmem e hw
      have hobs : s.observers.memory ≠ none := fun h => List.ne_nil_of_mem hw (hnone (.inl h))
      simp [hobs]
    · simp [hobs]
    · simp [hobs]

/-- Settles O53: the loop reaches the state after the Continuing steps with the rest of the count. -/
theorem executeRunsUntilHaltErrorOrCap : Obligations.ExecuteRunsUntilHaltErrorOrCap := by
  unfold Obligations.ExecuteRunsUntilHaltErrorOrCap
  refine fun k s t u h => ⟨fun hk hstep hout => ?_, fun f hk hstep => ?_, fun hk => ?_⟩
  · obtain ⟨n, seen, hrun⟩ := execute_of_continues_lt h hk
    rw [hrun, executeLoop_of_halted hstep hout]
    exact ⟨rfl, rfl⟩
  · obtain ⟨n, seen, hrun⟩ := execute_of_continues_lt h hk
    rw [hrun, executeLoop_of_fault hstep]
    exact ⟨rfl, rfl⟩
  · obtain ⟨seen, hrun⟩ := execute_of_continues h hk.le
    rw [hrun, hk, Nat.sub_self]
    exact ⟨rfl, rfl⟩

/-- Settles O54: a run of `STEP_CAP` steps is Continuing throughout or stops before, and its state has been stepped to. -/
theorem executeEndsInOneOfThreeWays : Obligations.ExecuteEndsInOneOfThreeWays := by
  unfold Obligations.ExecuteEndsInOneOfThreeWays
  intro s
  obtain ⟨t, ht⟩ | ⟨k, t, hk, ht, ⟨u, hstep, hout⟩ | hfetch⟩ := continues_or_stops s.params.stepCap s
  · obtain ⟨-, -, hcap⟩ := executeRunsUntilHaltErrorOrCap _ s t t ht
    obtain ⟨houtcome, hstate⟩ := hcap rfl
    exact ⟨.inr (.inl houtcome), fun hs => hstate ▸ continues_inv ht hs⟩
  · obtain ⟨hhalt, -, -⟩ := executeRunsUntilHaltErrorOrCap k s t u ht
    obtain ⟨houtcome, hstate⟩ := hhalt hk hstep hout
    exact ⟨.inl houtcome, fun hs => hstate ▸ step_inv (continues_inv ht hs) hstep⟩
  · obtain ⟨-, herror, -⟩ := executeRunsUntilHaltErrorOrCap k s t t ht
    obtain ⟨houtcome, hstate⟩ := herror _ hk (step_of_fetch_none hfetch)
    refine ⟨.inr (.inr ⟨t.pc, t.memRead t.pc, houtcome, ?_, ?_, (fetch_eq_none_iff_mem t).1 hfetch⟩),
      fun hs => hstate ▸ continues_inv ht hs⟩
    · rw [hstate]
    · rw [hstate]

/-- Settles O46: the bytes fetched are those decoded, and the encoding's length is the instruction's. -/
theorem stepRunsTheDecodedInstruction : Obligations.StepRunsTheDecodedInstruction := by
  unfold Obligations.StepRunsTheDecodedInstruction
  intro s u i rest hdec hexec
  rw [encode_length] at hexec
  have hu : exec i (startStep i s) = .next u := hexec
  rw [step_of_fetch (fetch_of_decode hdec), hu]
  rfl

/-- Settles O57: where the call comes from alone decides whether it is refused. -/
theorem reentrantCallsAreRefused : Obligations.ReentrantCallsAreRefused := by
  unfold Obligations.ReentrantCallsAreRefused
  exact fun _ _ => ⟨rfl, _, _, rfl⟩

end Sys2Proof.Machine
end

section
/-! PROOFS. The host's view of memory and of a step: canonical memories compared by what they read, an image placed from an address on,
the outcome `step` reports, and the dump of a range. -/

namespace Sys2Proof.Machine

/-! ### Canonical memories read alike -/

/-- Above the address space everything reads as the default. -/
theorem Memory.read_above {lo a : Nat} {m : Memory} (h : Memory.wfFrom lo m = true) (ha : 65536 ≤ a) :
    m.read a = Memory.default := by
  induction m generalizing lo with
  | nil => rfl
  | cons c m ih =>
    obtain ⟨-, hc, -, hm⟩ := (Memory.wfFrom_cons ..).1 h
    rw [Memory.read_cons, if_neg (by omega)]
    exact ih hm

/-- A canonical list starts no earlier than at an address it lists. -/
theorem Memory.le_of_read_ne_default {lo a : Nat} {m : Memory} (h : Memory.wfFrom lo m = true)
    (ha : m.read a ≠ Memory.default) : lo ≤ a :=
  Nat.le_of_not_lt fun hlt => ha (Memory.read_below h hlt)

theorem Memory.read_head (c : Host.Cell) (m : Memory) : Memory.read (c :: m) c.1 = c.2 := if_pos rfl

/-- Of two canonical lists that read alike, each has its first address no later than the other's. -/
theorem Memory.head_le_of_read_eq {lo lo' : Nat} {c d : Host.Cell} {m n : Memory}
    (hm : Memory.wfFrom lo (c :: m) = true) (hn : Memory.wfFrom lo' (d :: n) = true)
    (h : ∀ a, Memory.read (c :: m) a = Memory.read (d :: n) a) : c.1 ≤ d.1 := by
  obtain ⟨-, hcell⟩ := (Memory.wfFrom_cons ..).1 hm
  obtain ⟨-, -, hd, -⟩ := (Memory.wfFrom_cons ..).1 hn
  have hfrom : Memory.wfFrom c.1 (c :: m) = true := (Memory.wfFrom_cons ..).2 ⟨le_rfl, hcell⟩
  refine Memory.le_of_read_ne_default hfrom ?_
  rwa [h, Memory.read_head]

/-- The tails of canonical lists that read alike and have the same first address read alike: below their own start both read the
default. -/
theorem Memory.read_tail_eq {lo : Nat} {c d : Host.Cell} {m n : Memory} (hcd : c.1 = d.1)
    (hm : Memory.wfFrom lo m = true) (hn : Memory.wfFrom lo n = true) (hlo : c.1 < lo)
    (h : ∀ a, Memory.read (c :: m) a = Memory.read (d :: n) a) (a : Nat) : m.read a = n.read a := by
  by_cases ha : a = c.1
  · rw [Memory.read_below hm (ha ▸ hlo), Memory.read_below hn (ha ▸ hlo)]
  · have hread := h a
    rwa [Memory.read_cons, Memory.read_cons, if_neg ha, if_neg (hcd ▸ ha)] at hread

/-- The canonical form of a memory's contents is unique. -/
theorem Memory.eq_of_read_eq {lo lo' : Nat} {m n : Memory} (hm : Memory.wfFrom lo m = true)
    (hn : Memory.wfFrom lo' n = true) (h : ∀ a, m.read a = n.read a) : m = n := by
  induction m generalizing lo lo' n with
  | nil =>
    cases n with
    | nil => rfl
    | cons d n =>
      obtain ⟨-, -, hd, -⟩ := (Memory.wfFrom_cons ..).1 hn
      exact absurd ((Memory.read_head d n).symm.trans (h d.1).symm) hd
  | cons c m ih =>
    obtain ⟨-, -, hc, hmtail⟩ := (Memory.wfFrom_cons ..).1 hm
    cases n with
    | nil => exact absurd ((Memory.read_head c m).symm.trans (h c.1)) hc
    | cons d n =>
      obtain ⟨-, -, -, hntail⟩ := (Memory.wfFrom_cons ..).1 hn
      have haddr : c.1 = d.1 :=
        le_antisymm (Memory.head_le_of_read_eq hm hn h) (Memory.head_le_of_read_eq hn hm fun a => (h a).symm)
      have hbyte : c.2 = d.2 := by rw [← Memory.read_head c m, h, haddr, Memory.read_head]
      rw [← haddr] at hntail
      rw [Prod.ext haddr hbyte, ih hmtail hntail (Memory.read_tail_eq haddr hmtail hntail (Nat.lt_succ_self _) h)]

/-! ### An image in memory -/

/-- After bytes are placed an address reads the byte as many places after the first as the address is after the start, modulo 2^16. -/
theorem placeBytes_read (m : Memory) (addr a : Word) {bs : List Byte} (hlen : bs.length ≤ 65536) :
    (placeBytes m addr bs).read a.toNat = (bs[(a - addr).toNat]?).getD (m.read a.toNat) := by
  induction bs generalizing m addr with
  | nil => rfl
  | cons v vs ih =>
    rw [List.length_cons] at hlen
    rw [placeBytes, ih _ _ (by omega)]
    by_cases ha : a = addr
    · have hlast : vs.length ≤ (a - (addr + 1#16)).toNat := by bv_omega
      rw [List.getElem?_eq_none hlast, ha, BitVec.sub_self]
      exact Memory.read_write_same ..
    · have hnext : (a - addr).toNat = (a - (addr + 1#16)).toNat + 1 := by bv_omega
      rw [hnext, List.getElem?_cons_succ, Memory.read_write_other _ _ (mt BitVec.eq_of_toNat_eq ha)]

/-- The bytes of an image that ends inside the address space (R282) stand at no address below its start. -/
theorem placeBytes_read_of_fits (m : Memory) (addr a : Word) {bs : List Byte} (hfits : addr.toNat + bs.length ≤ 65536) :
    (placeBytes m addr bs).read a.toNat =
      if addr.toNat ≤ a.toNat then (bs[a.toNat - addr.toNat]?).getD (m.read a.toNat) else m.read a.toNat := by
  rw [placeBytes_read m addr a (by omega)]
  split
  · next hle => rw [BitVec.toNat_sub_of_le hle]
  · next hlt =>
    have hpast : bs.length ≤ (a - addr).toNat := by bv_omega
    rw [List.getElem?_eq_none hpast, Option.getD_none]

theorem hostOp_load_of_fits {s : State} {image : List Byte} (h : s.params.baseAddr.toNat + image.length ≤ 0x10000) :
    hostOp (.load image) s =
      (.done, { s with mem := placeBytes s.mem s.params.baseAddr image, pc := s.params.baseAddr }) := by
  simp only [hostOp, State.load, if_pos h]

theorem hostOp_load_of_too_large {s : State} {image : List Byte}
    (h : 0x10000 < s.params.baseAddr.toNat + image.length) : hostOp (.load image) s = (.imageTooLarge, s) := by
  simp only [hostOp, State.load, if_neg (Nat.not_le.2 h)]

/-! ### The outcome a step reports -/

theorem stepOnce_outcome_of_next {s t : State} (h : step s = .next t) : s.stepOnce.outcome = t.lastOutcome.report := by
  simp only [State.stepOnce, h]

/-- A completed step is Continuing or Halted (R250). -/
theorem StepOutcome.report_cases (o : StepOutcome) : o.report = .continuing ∨ o.report = .halted := by
  cases o with
  | continuing => exact .inl rfl
  | halted => exact .inr rfl

/-! ### The dump of a range -/

theorem in16_iff (b : Int) : in16 b = true ↔ 0 ≤ b ∧ b ≤ 0xFFFF := by
  simp [in16]

theorem memoryHexdump_eq_rangeError_iff (s : State) (lo hi : Int) :
    s.memoryHexdump lo hi = .rangeError ↔ ¬(in16 lo = true ∧ in16 hi = true ∧ lo < hi) := by
  simp [State.memoryHexdump, and_assoc]

/-- A dump that answers bytes is of a range that holds an address, and reads memory from its first one on (R287). -/
theorem memoryHexdump_eq_bytes {s : State} {lo hi : Int} {l : List Byte} (h : s.memoryHexdump lo hi = .bytes l) :
    lo < hi ∧ l = (List.range (hi - lo).toNat).map fun k => s.memRead (BitVec.ofNat 16 (lo.toNat + k)) := by
  rw [State.memoryHexdump] at h
  split at h
  · next hrange => exact ⟨of_decide_eq_true (Bool.and_eq_true_iff.1 hrange).2, (HexdumpResult.bytes.inj h).symm⟩
  · cases h

/-! ### The obligations -/

/-- Settles O6: the reads at the addresses of the machine are all there are, since above them both memories read the default. -/
theorem canonicalMemoriesReadingAlikeAreEqual : Obligations.CanonicalMemoriesReadingAlikeAreEqual := by
  unfold Obligations.CanonicalMemoriesReadingAlikeAreEqual
  intro m n hm hn h
  refine Memory.eq_of_read_eq hm hn fun a => ?_
  by_cases ha : a < 65536
  · have hword := h (BitVec.ofNat 16 a)
    rwa [BitVec.toNat_ofNat, Nat.mod_eq_of_lt ha] at hword
  · rw [Memory.read_above hm (Nat.le_of_not_lt ha), Memory.read_above hn (Nat.le_of_not_lt ha)]

/-- Settles O52: an image that fits ends before its addresses wrap. -/
theorem loadCopiesTheImage : Obligations.LoadCopiesTheImage := by
  unfold Obligations.LoadCopiesTheImage
  intro s image
  exact ⟨fun hfits => ⟨_, hostOp_load_of_fits hfits, rfl, fun a => placeBytes_read_of_fits _ _ a hfits⟩,
    hostOp_load_of_too_large⟩

/-- Settles O55: a fetched instruction completes (R257), and a fetch without one is the only error. -/
theorem stepNeverReportsTheStepCap : Obligations.StepNeverReportsTheStepCap := by
  unfold Obligations.StepNeverReportsTheStepCap
  intro s
  cases hfetch : fetch s with
  | none => exact .inr (.inr ⟨_, _, congrArg RunReport.outcome (stepOnce_of_fetch_none hfetch)⟩)
  | some i =>
    obtain ⟨t, hstep, -⟩ := step_next_of_fetch hfetch
    rw [stepOnce_outcome_of_next hstep]
    exact (StepOutcome.report_cases t.lastOutcome).imp_right .inl

/-- Settles O56: bytes are answered exactly when the bounds lie in the 16-bit range in order, and they are read one by one. -/
theorem hexdumpGivesTheBytesOfARange : Obligations.HexdumpGivesTheBytesOfARange := by
  unfold Obligations.HexdumpGivesTheBytesOfARange
  intro s lo hi
  refine ⟨rfl, ?_, fun l hl => ?_⟩
  · rw [memoryHexdump_eq_rangeError_iff, in16_iff, in16_iff]
    omega
  · obtain ⟨hlt, rfl⟩ := memoryHexdump_eq_bytes hl
    refine ⟨?_, fun k hk => ?_⟩
    · rw [List.length_map, List.length_range, Int.toNat_of_nonneg (Int.sub_nonneg_of_le hlt.le)]
    · rw [List.getElem_map, List.getElem_range]

end Sys2Proof.Machine
end
